-- ==== Sys2Proof/Word.lean ====
section
/-! DEFINITION. The block's word types (00_scope.md R9: a byte is 8 bits, a word is 32 bits). -/

namespace Sys2Proof

/-- A byte (00_scope.md R9). -/
abbrev Byte := BitVec 8

/-- A 16-bit field of a frame or a register. -/
abbrev Half := BitVec 16

/-- A word: one host access, one command word (00_scope.md R9). -/
abbrev Word := BitVec 32

/-- `v[hi:lo]` as a number (00_scope.md R9). -/
def bitsOf {w : Nat} (v : BitVec w) (hi lo : Nat) : Nat := (v.extractLsb hi lo).toNat

end Sys2Proof
end

