-- ==== Sys2Proof/Config.lean ====
section
/-! DEFINITION. What an implementation fixes (00_scope.md R7, R8) and the free values (70_reset_and_hazards.md R160). -/

namespace Sys2Proof

/-- The block's three byte memories (10_state.md R35, R36, R37). -/
inductive MemId where
  | scratch
  | txval
  | rxval
deriving DecidableEq, Repr, Inhabited

/-- The build-time parameters (00_scope.md R7). Their bounds are part of the types, so every value is an allowed
configuration: 26 <= FRAME_BUF_CAP <= 65551 and 0 <= RXVAL_BYTES <= 65535. -/
structure Config where
  /-- FRAME_BUF_CAP - 26, from 0 to 65525. -/
  spare     : Fin 65526
  /-- RXVAL_BYTES, from 0 to 65535. -/
  rxvalSize : Fin 65536
deriving DecidableEq, Repr, Inhabited

/-- FRAME_BUF_CAP (00_scope.md R7). -/
def Config.frameBufCap (c : Config) : Nat := 26 + c.spare.val

/-- TXVAL_BYTES = FRAME_BUF_CAP - 26 (00_scope.md R7). -/
def Config.txvalBytes (c : Config) : Nat := c.frameBufCap - 26

/-- RXVAL_BYTES (00_scope.md R7). -/
def Config.rxvalBytes (c : Config) : Nat := c.rxvalSize.val

/-- The configuration of the block that was built: OPEN in the spec (00_scope.md R8), so it has no body.
DESIGN CHOICE, safe (entry 1): it stands in the reset state, and every statement is about every configuration. -/
opaque Config.block : Config

/-- The free draw of a memory byte at reset number `n` (70_reset_and_hazards.md R160: "Each byte holds some value the
model does not choose"). No body: nothing can be proved of it (entry 2). -/
opaque Config.freeByte : (n : Nat) → MemId → (index : Nat) → Byte

/-- Which reset draw the unwritten bytes of the memories come from. `number` counts the resets; `fill = some b` is the
draw in which every byte came up as `b`, for a state that has to be evaluated (entry 2). -/
structure Draw where
  number : Nat
  fill   : Option Byte
deriving DecidableEq, Repr, Inhabited

/-- START_MARKER (00_scope.md R7). UNVERIFIED literal, like the next two (R4, entry 15). -/
def startMarker : Byte := 0xAA#8

/-- LOCAL_ADDR, the Gateway address (00_scope.md R7). -/
def localAddr : Word := 1#32

/-- FOREIGN_RETRIES (00_scope.md R7; 90_conflicts.md C1). -/
def foreignRetries : Nat := 3

end Sys2Proof
end

