-- ==== Sys2Proof/Machine/Interface.lean ====
section
/-! DEFINITION. What the agents hand each other (00_scope.md R16): host accesses, the receive transport's answers, and
the actions whose order is the one total order of 20_memory.md R61. -/

namespace Sys2Proof.Machine

open Sys2Proof

/-- One host access to the register space of 2^20 byte offsets (20_memory.md R54; entry 18). Only aligned 4-byte accesses are part
of the interface (R56); the other sizes and offsets can be written down so that they can be refused. -/
inductive Access where
  | read  (offset : BitVec 20) (bytes : Nat)
  | write (offset : BitVec 20) (bytes : Nat) (data : Word)
deriving DecidableEq, Repr, Inhabited

/-- The byte offset an access names. -/
def Access.offset : Access → BitVec 20
  | .read o _    => o
  | .write o _ _ => o

/-- The size of an access in bytes. -/
def Access.bytes : Access → Nat
  | .read _ n    => n
  | .write _ n _ => n

/-- The receive transport's answers to `rx_next()` (60_exceptions.md R141). -/
inductive RxEvent where
  | byte (b : Byte)
  | timeout
  | ioFault
deriving DecidableEq, Repr, Inhabited

/-- One action of one agent. `State.agenda` lists them in the order they happen (20_memory.md R61; entry 3). -/
inductive Action where
  /-- The host makes one access. -/
  | host (a : Access)
  /-- The block's turn: a receive step if one is enabled and answered (42_decoder.md R106). -/
  | receive
  /-- The receive transport comes to hold one more answer (60_exceptions.md R144). -/
  | arrive (e : RxEvent)
  /-- The host calls `transmit.write(bytes)`, and the transmit transport accepts `k` of them (60_exceptions.md R145). -/
  | transmit (bytes : List Byte) (k : Nat)
  /-- The platform asserts reset (70_reset_and_hazards.md R158). -/
  | reset
deriving DecidableEq, Repr, Inhabited

/-- The names of the register map (10_state.md R22), in its order. -/
inductive Reg where
  | cmd | status | chk
  | txDest | txService | txObjType | txObjId | txPropId | txValueLen | txFrameLen
  | rxCap
  | rxHdrFlags | rxSrc | rxDest | rxBodyLen | rxBodyFlags | rxService
  | rxObjType | rxObjId | rxPropId | rxValueLen | rxErrCode
  | codecInt | codecFloat
deriving DecidableEq, Repr, Inhabited

end Sys2Proof.Machine
end

