-- ==== Sys2Proof/Syntax.lean ====
section
/-! DEFINITION. The block's commands, one constructor per row of spec/opcode_table.json (30_encoding.md R69, R70). -/

namespace Sys2Proof

/-- The six commands (30_encoding.md R70). CHK_BYTE carries the one immediate any command has, DATA (R67). -/
inductive Instr where
  /-- CHK_INIT (40_checksum.md R92). -/
  | chkInit
  /-- CHK_BYTE b (40_checksum.md R93). -/
  | chkByte (b : Byte)
  /-- ENCODE (41_encoder.md R96). -/
  | encode
  /-- DECODE, its start step (42_decoder.md R104). -/
  | decode
  /-- AS_INT (43_codec.md R130). -/
  | asInt
  /-- AS_FLOAT (43_codec.md R131). -/
  | asFloat
deriving DecidableEq, Repr, Inhabited

end Sys2Proof
end

