-- ==== Sys2Proof/WellFormed.lean ====
section
/-! DEFINITION. Well-formed commands, legal command words (30_encoding.md R66) and host accesses that are part of the
interface (20_memory.md R56). -/

namespace Sys2Proof

/-- Every command is well formed: the one operand, DATA, is a byte by its type (30_encoding.md R67; entry 19). -/
def Instr.wf : Instr → Bool
  | .chkInit   => true
  | .chkByte _ => true
  | .encode    => true
  | .decode    => true
  | .asInt     => true
  | .asFloat   => true

/-- R66, first condition: OP is one of 1..6. -/
def opIsCommand (w : Word) : Bool := decide (1 ≤ bitsOf w 3 0) && decide (bitsOf w 3 0 ≤ 6)

/-- R66, second condition: bits [7:4] and [31:16] are 0. -/
def reservedAreZero (w : Word) : Bool := decide (bitsOf w 7 4 = 0) && decide (bitsOf w 31 16 = 0)

/-- R66, third condition: DATA is 0 unless OP = 2. -/
def dataIsUsed (w : Word) : Bool := decide (bitsOf w 15 8 = 0) || decide (bitsOf w 3 0 = 2)

/-- A legal command word (30_encoding.md R66). -/
def legal (w : Word) : Bool := opIsCommand w && reservedAreZero w && dataIsUsed w

/-- The access is a 32-bit word (20_memory.md R56). -/
def Machine.Access.isWord (a : Machine.Access) : Bool := decide (a.bytes = 4)

/-- The offset is a multiple of 4 (20_memory.md R56). -/
def Machine.Access.aligned (a : Machine.Access) : Bool := decide (a.offset.toNat % 4 = 0)

/-- The access is part of the block's interface (20_memory.md R56). -/
def Machine.Access.wf (a : Machine.Access) : Bool := a.isWord && a.aligned

end Sys2Proof
end

