-- ==== Sys2Proof/Decode.lean ====
section
/-! DEFINITION. Command words to commands (30_encoding.md R65-R69), and back. -/

namespace Sys2Proof

/-- Why a command word is illegal (30_encoding.md R66), in the order of that rule. Every one of them has the same
behaviour (R72); the name is for the reader. -/
inductive Illegal where
  | opcode
  | reservedBits
  | dataNotZero
deriving DecidableEq, Repr

/-- OP, bits [3:0] (30_encoding.md R65). -/
def opField (w : Word) : BitVec 4 := w.extractLsb' 0 4

/-- Bits [7:4], reserved (30_encoding.md R65). -/
def lowReservedField (w : Word) : BitVec 4 := w.extractLsb' 4 4

/-- DATA, bits [15:8] (30_encoding.md R65). -/
def dataField (w : Word) : Byte := w.extractLsb' 8 8

/-- Bits [31:16], reserved (30_encoding.md R65). -/
def highReservedField (w : Word) : Half := w.extractLsb' 16 16

/-- A command that takes no DATA is legal only with DATA = 0 (30_encoding.md R66). -/
def withoutData (w : Word) (i : Instr) : Except Illegal Instr :=
  if dataField w = 0#8 then .ok i else .error .dataNotZero

/-- The opcode map (30_encoding.md R69), the reserved bits being 0. -/
def decodeOp (w : Word) : Except Illegal Instr :=
  match (opField w).toNat with
  | 1 => withoutData w .chkInit
  | 2 => .ok (.chkByte (dataField w))
  | 3 => withoutData w .encode
  | 4 => withoutData w .decode
  | 5 => withoutData w .asInt
  | 6 => withoutData w .asFloat
  | _ => .error .opcode

/-- "The block decodes every 32-bit word to exactly one of the six commands or to 'illegal'" (30_encoding.md R66). -/
def decode (w : Word) : Except Illegal Instr :=
  if lowReservedField w = 0#4 ∧ highReservedField w = 0#16 then decodeOp w else .error .reservedBits

/-- The command of a word, none where it is illegal. -/
def decodeWord (w : Word) : Option Instr :=
  match decode w with
  | .ok i    => some i
  | .error _ => none

/-- The command word of a command (30_encoding.md R69): the row's match, with DATA in [15:8] for CHK_BYTE. -/
def encode : Instr → Word
  | .chkInit   => 0x00000001#32
  | .chkByte b => (0#16 ++ b) ++ 0x02#8
  | .encode    => 0x00000003#32
  | .decode    => 0x00000004#32
  | .asInt     => 0x00000005#32
  | .asFloat   => 0x00000006#32

/-- The opcode table's match and mask of a command's row (30_encoding.md R69). -/
def opcodeRow : Instr → Word × Word
  | .chkInit   => (0x00000001#32, 0xFFFFFFFF#32)
  | .chkByte _ => (0x00000002#32, 0xFFFF00FF#32)
  | .encode    => (0x00000003#32, 0xFFFFFFFF#32)
  | .decode    => (0x00000004#32, 0xFFFFFFFF#32)
  | .asInt     => (0x00000005#32, 0xFFFFFFFF#32)
  | .asFloat   => (0x00000006#32, 0xFFFFFFFF#32)

/-- The table numbers a word's bits as the block does, bit 0 least significant (00_scope.md R9). Command words have one
length, 32 bits (30_encoding.md R68): a word of another length, shorter or longer, or a number that needs more bits, is
none. -/
def decodeTableWord (nbits w : Nat) : Option Instr :=
  if nbits = 32 ∧ w < 2 ^ 32 then decodeWord (BitVec.ofNat 32 w) else none

end Sys2Proof
end

