-- ==== Sys2Proof/Machine/Memory.lean ====
section
/-! DEFINITION. One byte memory as plain data: a list of (index, byte) cells in one canonical form. -/

namespace Sys2Proof.Machine

open Sys2Proof

/-- A byte memory: the cells that hold something else than an unlisted index reads as. -/
abbrev Memory := List Host.Cell

/-- What an unlisted index of memory `m` reads as: its byte of the reset draw (70_reset_and_hazards.md R160). -/
def Draw.byte (d : Draw) (m : MemId) (i : Nat) : Byte :=
  match d.fill with
  | some b => b
  | none   => Config.freeByte d.number m i

/-- The draw of the next reset: a new free one (70_reset_and_hazards.md R160). -/
def Draw.fresh (d : Draw) : Draw := { number := d.number + 1, fill := none }

/-- The canonical form against `dflt`, what an unlisted index reads as: indices rise, and no cell says what an unlisted
index would. -/
abbrev Memory.wf (dflt : Nat → Byte) (m : Memory) : Prop :=
  m.Pairwise (fun c d => c.1 < d.1) ∧ ∀ c ∈ m, c.2 ≠ dflt c.1

/-- The byte listed for an index. -/
def Memory.lookup : Memory → Nat → Option Byte
  | [], _          => none
  | (k, b) :: m, i => if k = i then some b else Memory.lookup m i

/-- `buf[i]` (00_scope.md R9). -/
def Memory.read (dflt : Nat → Byte) (m : Memory) (i : Nat) : Byte := (Memory.lookup m i).getD (dflt i)

/-- The cells with index `i` listing `b`. -/
def Memory.put : Memory → Nat → Byte → Memory
  | [], i, b          => [(i, b)]
  | (k, c) :: m, i, b =>
    if i < k then (i, b) :: (k, c) :: m
    else if i = k then (i, b) :: m
    else (k, c) :: Memory.put m i b

/-- The cells with index `i` unlisted. -/
def Memory.drop (m : Memory) (i : Nat) : Memory := m.filter fun c => c.1 != i

/-- `buf[i] <- b`, kept canonical: a byte that an unlisted index reads as is not listed. -/
def Memory.write (dflt : Nat → Byte) (m : Memory) (i : Nat) (b : Byte) : Memory :=
  if b = dflt i then Memory.drop m i else Memory.put m i b

/-- `MemWrite(M, i, s)` (00_scope.md R12) on a memory of `size` bytes; a byte at or past the size is ignored
(20_memory.md R55; entry 7). -/
def Memory.writeBytes (dflt : Nat → Byte) (size : Nat) (m : Memory) (i : Nat) : List Byte → Memory
  | []      => m
  | b :: bs =>
    Memory.writeBytes dflt size (if i < size then Memory.write dflt m i b else m) (i + 1) bs

end Sys2Proof.Machine
end

