-- ==== Sys2Proof/Machine/State.lean ====
section
/-! DEFINITION. The machine's state as plain data: everything 10_state.md gives the block, beside it the read-only
configuration, and the state of the other agents (00_scope.md R16). INVENTORY.md lists each field with its rule. -/

namespace Sys2Proof.Machine

open Sys2Proof

/-- STATUS.PHASE, the decoder's states (10_state.md R26). The codes 6-15 are unused and have no name. -/
inductive Phase where
  | idle
  | seekStart
  | readHeader
  | validateHeader
  | readBody
  | validateBody
deriving DecidableEq, Repr, Inhabited

/-- STATUS.OUTCOME, the outcome codes (30_encoding.md R86), in the order of their numbers. -/
inductive OutcomeCode where
  | none
  | ok
  | applicationError
  | foreignRequest
  | portTimeout
  | portReadFailed
  | headerChecksumMismatch
  | bodyChecksumMismatch
  | invalidFrame
  | bufferTooSmall
  | illegalCommand
  /-- The host procedure's result only, "never written by the block" (30_encoding.md R86). -/
  | portWriteFailed
deriving DecidableEq, Repr, Inhabited

/-- The fields of STATUS (10_state.md R25). -/
structure Status where
  busy      : Bool
  phase     : Phase
  outcome   : OutcomeCode
  faultBusy : Bool
deriving DecidableEq, Repr, Inhabited

/-- A checksum pair, the byte A and the byte B (40_checksum.md R88); register CHK holds one (10_state.md R29). -/
structure Checksum where
  a : Byte
  b : Byte
deriving DecidableEq, Repr, Inhabited

/-- The transaction descriptor registers TX_* (10_state.md R31). -/
structure Descriptor where
  dest     : Word
  service  : Byte
  objType  : Half
  objId    : Word
  propId   : Half
  valueLen : Half
deriving DecidableEq, Repr, Inhabited

/-- The decoded-result registers RX_* (10_state.md R34). -/
structure RxRegs where
  hdrFlags  : Byte
  src       : Word
  dest      : Word
  bodyLen   : Half
  bodyFlags : Byte
  service   : Byte
  objType   : Half
  objId     : Word
  propId    : Half
  valueLen  : Half
  errCode   : Half
deriving DecidableEq, Repr, Inhabited

/-- Every RX_* register 0: after reset (70_reset_and_hazards.md R159) and after a DECODE start step (42_decoder.md R104). -/
def RxRegs.zero : RxRegs :=
  { hdrFlags := 0, src := 0, dest := 0, bodyLen := 0, bodyFlags := 0, service := 0,
    objType := 0, objId := 0, propId := 0, valueLen := 0, errCode := 0 }

/-- Why the machine stops. The block itself has no trap (60_exceptions.md R134); its one fault, FAULT_BUSY, is a STATUS
bit and no stop (R146). -/
inductive Fault where
  /-- Raised by the block's turn when BUSY = 1 and PHASE is IDLE, VALIDATE_HEADER or VALIDATE_BODY, for which DECODE_STEP
  has no arm (42_decoder.md R106; 93_implementation_defined.md I18: never occurs). Safe (entry 8). -/
  | noReceiveStep
deriving DecidableEq, Repr

/-- Why the machine gives an input no meaning. -/
inductive Refusal where
  /-- Raised by `exec` for an instruction without a meaning; no arm does. Safe. -/
  | notModelled (mnemonic : String)
  /-- Raised by a host access of another size than 4 bytes (20_memory.md R56, refused there). Safe (entry 9). -/
  | notWordAccess
  /-- Raised by a host word access whose offset is not a multiple of 4 (20_memory.md R56). Safe (entry 9). -/
  | misalignedAccess
deriving DecidableEq, Repr

/-- The state of the block and, after it, the configuration and what the other agents hold. -/
@[ext]
structure State where
  /-- STATUS (10_state.md R25). -/
  status     : Status
  /-- CHK (10_state.md R29). -/
  chk        : Checksum
  /-- TX_DEST, TX_SERVICE, TX_OBJ_TYPE, TX_OBJ_ID, TX_PROP_ID, TX_VALUE_LEN (10_state.md R31). -/
  tx         : Descriptor
  /-- TX_FRAME_LEN, 17 bits (10_state.md R32). -/
  txFrameLen : BitVec 17
  /-- RX_CAP (10_state.md R33). -/
  rxCap      : Half
  /-- RX_HDR_FLAGS .. RX_ERR_CODE (10_state.md R34). -/
  rx         : RxRegs
  /-- CODEC_INT (10_state.md R30). -/
  codecInt   : Word
  /-- CODEC_FLOAT (10_state.md R30). -/
  codecFloat : Word
  /-- SCRATCH, FRAME_BUF_CAP bytes (10_state.md R35). -/
  scratch    : Memory
  /-- TXVAL, TXVAL_BYTES bytes (10_state.md R36). -/
  txval      : Memory
  /-- RXVAL, RXVAL_BYTES bytes (10_state.md R37). -/
  rxval      : Memory
  /-- dec_pos, 17 bits, internal (10_state.md R38). -/
  decPos     : BitVec 17
  /-- dec_cap, internal (10_state.md R38). -/
  decCap     : Half
  /-- The configuration: read only, no step changes it (00_scope.md R7, R17; entry 1). -/
  cfg        : Config
  /-- The model's own: which reset draw unwritten bytes come from (70_reset_and_hazards.md R160; entry 2). -/
  draw       : Draw
  /-- The model's own: the agents' coming actions, in the order of 20_memory.md R61 (entry 3). -/
  agenda     : List Action
  /-- Receive transport: its answers to the coming `rx_next()` calls, oldest first (60_exceptions.md R141, R144; entry 4). -/
  rxAnswers  : List RxEvent
  /-- Transmit transport: the bytes it has accepted, oldest first (60_exceptions.md R145; entry 5). -/
  sent       : List Byte
  /-- Transmit transport: the count its last write reported (60_exceptions.md R145; entry 5). -/
  accepted   : Nat
  /-- Host bus: the word the last host read returned (20_memory.md R59; entry 6). -/
  busData    : Word
deriving DecidableEq, Repr

/-- The machine after reset with configuration `c`, its unwritten memory bytes from draw `d`: every register at its value
in the reset column of 10_state.md R22 (70_reset_and_hazards.md R159), no memory byte listed (R160), no agent having
anything to do. -/
def State.resetWith (c : Config) (d : Draw) : State :=
  { status     := { busy := false, phase := .idle, outcome := .none, faultBusy := false }
    chk        := { a := 0xFF, b := 0x00 }
    tx         := { dest := 0, service := 0, objType := 0, objId := 0, propId := 0, valueLen := 0 }
    txFrameLen := 0
    rxCap      := 0
    rx         := RxRegs.zero
    codecInt   := 0
    codecFloat := 0
    scratch    := []
    txval      := []
    rxval      := []
    decPos     := 0
    decCap     := 0
    cfg        := c
    draw       := d
    agenda     := []
    rxAnswers  := []
    sent       := []
    accepted   := 0
    busData    := 0 }

/-- The machine right after power-on reset: the configuration that was built, the first free draw. -/
def State.reset : State := State.resetWith Config.block { number := 0, fill := none }

end Sys2Proof.Machine
end

