-- ==== Sys2Proof/Machine/Flags.lean ====
section
/-! DEFINITION. The status register as the host reads it, the outcome and phase codes, CHK as a word, and the wire flags
(10_state.md R25, R26, R29, R40; 30_encoding.md R77, R86). -/

namespace Sys2Proof.Machine

open Sys2Proof

/-- The number of an outcome (30_encoding.md R86). -/
def OutcomeCode.code : OutcomeCode → Byte
  | .none                   => 0x00
  | .ok                     => 0x01
  | .applicationError       => 0x02
  | .foreignRequest         => 0x03
  | .portTimeout            => 0x04
  | .portReadFailed         => 0x05
  | .headerChecksumMismatch => 0x06
  | .bodyChecksumMismatch   => 0x07
  | .invalidFrame           => 0x08
  | .bufferTooSmall         => 0x09
  | .illegalCommand         => 0x0A
  | .portWriteFailed        => 0x0B

/-- The number of a decoder state (10_state.md R26). -/
def Phase.code : Phase → BitVec 4
  | .idle           => 0
  | .seekStart      => 1
  | .readHeader     => 2
  | .validateHeader => 3
  | .readBody       => 4
  | .validateBody   => 5

/-- STATUS as a word: BUSY [0], PHASE [7:4], OUTCOME [15:8], FAULT_BUSY [16], the rest 0 (10_state.md R25). -/
def Status.word (s : Status) : Word :=
  (0#15 ++ BitVec.ofBool s.faultBusy) ++ s.outcome.code ++ s.phase.code ++ (0#3 ++ BitVec.ofBool s.busy)

/-- CHK as a word: A in [7:0], B in [15:8] (10_state.md R29; 20_memory.md R51). -/
def Checksum.word (c : Checksum) : Word := 0#16 ++ c.b ++ c.a

/-- The pair as the frame carries it, A then B (20_memory.md R51; 30_encoding.md R83). -/
def Checksum.bytes (c : Checksum) : List Byte := [c.a, c.b]

/-- Body flags bit0, "application error" (30_encoding.md R77). -/
def isApplicationError (flags : Byte) : Bool := flags.getLsbD 0

/-- Body flags bit1, "is-response" (30_encoding.md R77). -/
def isResponse (flags : Byte) : Bool := flags.getLsbD 1

end Sys2Proof.Machine
end

