-- ==== Sys2Proof/Machine/Operands.lean ====
section
/-! DEFINITION. Byte sequences and the integers in them (00_scope.md R10, R11; 20_memory.md R50). -/

namespace Sys2Proof.Machine

open Sys2Proof

/-- `s[i]`. No rule reads past the end of a sequence; there it is 0 (entry 17). -/
def byteOf (s : List Byte) (i : Nat) : Byte := s.getD i 0

/-- `le16(s, i)` (00_scope.md R11). -/
def le16 (s : List Byte) (i : Nat) : Half :=
  (byteOf s i).zeroExtend 16 ||| (byteOf s (i + 1)).zeroExtend 16 <<< 8

/-- `le32(s, i)` (00_scope.md R11). -/
def le32 (s : List Byte) (i : Nat) : Word :=
  (byteOf s i).zeroExtend 32 ||| (byteOf s (i + 1)).zeroExtend 32 <<< 8 |||
    (byteOf s (i + 2)).zeroExtend 32 <<< 16 ||| (byteOf s (i + 3)).zeroExtend 32 <<< 24

/-- `bytes_le(v, n)`: byte k is `v[8k+7:8k]` (00_scope.md R11). -/
def bytesLe {w : Nat} (v : BitVec w) (n : Nat) : List Byte :=
  (List.range n).map fun k => v.extractLsb' (8 * k) 8

end Sys2Proof.Machine
end

