-- ==== Sys2Proof/Machine/Ops.lean ====
section
/-! DEFINITION. The named operations over the block's memories and registers, how a command ends (`finish`), and the busy
fault: the block's one fault, where another machine takes an exception (60_exceptions.md R134, R146). -/

namespace Sys2Proof.Machine

open Sys2Proof

/-- What a step of this machine answers. -/
abbrev Out := Host.Outcome State Fault Refusal

/-! Writes of one register or one field, each under its name. -/

/-- `reg.STATUS.PHASE <- p` (10_state.md R25). -/
def State.setPhase (s : State) (p : Phase) : State := { s with status := { s.status with phase := p } }

/-- CHK's two accumulators (10_state.md R29). -/
def State.setChk (s : State) (c : Checksum) : State := { s with chk := c }

/-- The TX_* registers (10_state.md R31). -/
def State.setTx (s : State) (d : Descriptor) : State := { s with tx := d }

/-- `reg.TX_FRAME_LEN <- n` (10_state.md R32). -/
def State.setTxFrameLen (s : State) (n : BitVec 17) : State := { s with txFrameLen := n }

/-- `reg.RX_CAP <- n` (10_state.md R33). -/
def State.setRxCap (s : State) (n : Half) : State := { s with rxCap := n }

/-- The RX_* registers (10_state.md R34). -/
def State.setRx (s : State) (r : RxRegs) : State := { s with rx := r }

/-- `reg.CODEC_INT <- v` (10_state.md R30). -/
def State.setCodecInt (s : State) (v : Word) : State := { s with codecInt := v }

/-- `reg.CODEC_FLOAT <- v` (10_state.md R30). -/
def State.setCodecFloat (s : State) (v : Word) : State := { s with codecFloat := v }

/-- `dec_pos <- p` (10_state.md R38). -/
def State.setDecPos (s : State) (p : BitVec 17) : State := { s with decPos := p }

/-- The agents' coming actions (entry 3). -/
def State.setAgenda (s : State) (l : List Action) : State := { s with agenda := l }

/-- The receive transport's coming answers (entry 4). -/
def State.setAnswers (s : State) (l : List RxEvent) : State := { s with rxAnswers := l }

/-- The word on the host bus (entry 6). -/
def State.setBusData (s : State) (v : Word) : State := { s with busData := v }

/-! The memories. -/

/-- The size of a memory in bytes (00_scope.md R7; 10_state.md R35, R36, R37). -/
def State.memSize (s : State) : MemId → Nat
  | .scratch => s.cfg.frameBufCap
  | .txval   => s.cfg.txvalBytes
  | .rxval   => s.cfg.rxvalBytes

/-- The cells of a memory. -/
def State.mem (s : State) : MemId → Memory
  | .scratch => s.scratch
  | .txval   => s.txval
  | .rxval   => s.rxval

/-- The state with a memory's cells replaced. -/
def State.setMem (s : State) (m : MemId) (cells : Memory) : State :=
  match m with
  | .scratch => { s with scratch := cells }
  | .txval   => { s with txval := cells }
  | .rxval   => { s with rxval := cells }

/-- `M[i]`; a byte at or past the memory's size reads as 0 (20_memory.md R55; for the block's own reads entry 7). -/
def State.byteAt (s : State) (m : MemId) (i : Nat) : Byte :=
  if i < s.memSize m then Memory.read (Draw.byte s.draw m) (s.mem m) i else 0

/-- `MemRead(M, i, n)` (00_scope.md R12). -/
def State.memRead (s : State) (m : MemId) (i n : Nat) : List Byte :=
  (List.range n).map fun k => s.byteAt m (i + k)

/-- `MemWrite(M, i, bs)` (00_scope.md R12); a byte at or past the memory's size is ignored (20_memory.md R55; entry 7). -/
def State.storeBytes (s : State) (m : MemId) (i : Nat) (bs : List Byte) : State :=
  s.setMem m (Memory.writeBytes (Draw.byte s.draw m) (s.memSize m) (s.mem m) i bs)

/-- `finish(code)`: OUTCOME <- code, BUSY <- 0, PHASE <- IDLE (00_scope.md R12; 60_exceptions.md R134; entry 13). -/
def State.finish (s : State) (code : OutcomeCode) : State :=
  { s with status := { s.status with outcome := code, busy := false, phase := .idle } }

/-- The busy fault: FAULT_BUSY <- 1, nothing else (60_exceptions.md R146; 30_encoding.md R71). -/
def State.busyFault (s : State) : State :=
  { s with status := { s.status with faultBusy := true } }

/-- A command as issued by a CMD write: while BUSY = 1 the busy fault, otherwise what the command does
(30_encoding.md R71; 60_exceptions.md R138; entry 12). -/
def issue (command : State → State) (s : State) : State :=
  if s.status.busy then s.busyFault else command s

/-- An illegal command word: ILLEGAL_COMMAND and nothing else (60_exceptions.md R135). -/
def illegalCommand (s : State) : State := s.finish .illegalCommand

/-- Reset asserted: every register at its reset value, every memory byte a new free draw (70_reset_and_hazards.md
R158-R160, R162). The transports and the host are not part of the block and keep what they hold (R161; entry 10). -/
def State.platformReset (s : State) : State :=
  { State.resetWith s.cfg (Draw.fresh s.draw) with
    agenda    := s.agenda
    rxAnswers := s.rxAnswers
    sent      := s.sent
    accepted  := s.accepted
    busData   := s.busData }

end Sys2Proof.Machine
end

