-- ==== Sys2Proof/Machine/Bus.lean ====
section
/-! DEFINITION. The host bus: the register map and the memory windows (10_state.md R22-R24; 20_memory.md R53-R56), and the
dispatch of a CMD write (30_encoding.md R71). -/

namespace Sys2Proof.Machine

open Sys2Proof

/-- The byte offset of a register (10_state.md R22). -/
def Reg.offset : Reg → Nat
  | .cmd         => 0x000
  | .status      => 0x004
  | .chk         => 0x008
  | .txDest      => 0x010
  | .txService   => 0x014
  | .txObjType   => 0x018
  | .txObjId     => 0x01C
  | .txPropId    => 0x020
  | .txValueLen  => 0x024
  | .txFrameLen  => 0x028
  | .rxCap       => 0x02C
  | .rxHdrFlags  => 0x040
  | .rxSrc       => 0x044
  | .rxDest      => 0x048
  | .rxBodyLen   => 0x04C
  | .rxBodyFlags => 0x050
  | .rxService   => 0x054
  | .rxObjType   => 0x058
  | .rxObjId     => 0x05C
  | .rxPropId    => 0x060
  | .rxValueLen  => 0x064
  | .rxErrCode   => 0x068
  | .codecInt    => 0x070
  | .codecFloat  => 0x074

/-- The registers, in the order of 10_state.md R22. -/
def allRegs : List Reg :=
  [.cmd, .status, .chk, .txDest, .txService, .txObjType, .txObjId, .txPropId, .txValueLen, .txFrameLen, .rxCap,
   .rxHdrFlags, .rxSrc, .rxDest, .rxBodyLen, .rxBodyFlags, .rxService, .rxObjType, .rxObjId, .rxPropId,
   .rxValueLen, .rxErrCode, .codecInt, .codecFloat]

/-- The register at an offset, if there is one (10_state.md R22; 20_memory.md R54). -/
def regAt (offset : Nat) : Option Reg := allRegs.find? fun r => r.offset == offset

/-- The memory and the index of a window's byte (20_memory.md R54). -/
def windowAt (offset : Nat) : Option (MemId × Nat) :=
  if 0x20000 ≤ offset ∧ offset < 0x40000 then some (.scratch, offset - 0x20000)
  else if 0x40000 ≤ offset ∧ offset < 0x60000 then some (.txval, offset - 0x40000)
  else if 0x60000 ≤ offset ∧ offset < 0x80000 then some (.rxval, offset - 0x60000)
  else none

/-- What a register reads as: CMD as 0, the bits above the width used as 0 (10_state.md R22, R23, R24). -/
def State.readReg (s : State) : Reg → Word
  | .cmd         => 0
  | .status      => s.status.word
  | .chk         => s.chk.word
  | .txDest      => s.tx.dest
  | .txService   => s.tx.service.zeroExtend 32
  | .txObjType   => s.tx.objType.zeroExtend 32
  | .txObjId     => s.tx.objId
  | .txPropId    => s.tx.propId.zeroExtend 32
  | .txValueLen  => s.tx.valueLen.zeroExtend 32
  | .txFrameLen  => s.txFrameLen.zeroExtend 32
  | .rxCap       => s.rxCap.zeroExtend 32
  | .rxHdrFlags  => s.rx.hdrFlags.zeroExtend 32
  | .rxSrc       => s.rx.src
  | .rxDest      => s.rx.dest
  | .rxBodyLen   => s.rx.bodyLen.zeroExtend 32
  | .rxBodyFlags => s.rx.bodyFlags.zeroExtend 32
  | .rxService   => s.rx.service.zeroExtend 32
  | .rxObjType   => s.rx.objType.zeroExtend 32
  | .rxObjId     => s.rx.objId
  | .rxPropId    => s.rx.propId.zeroExtend 32
  | .rxValueLen  => s.rx.valueLen.zeroExtend 32
  | .rxErrCode   => s.rx.errCode.zeroExtend 32
  | .codecInt    => s.codecInt
  | .codecFloat  => s.codecFloat

/-- A host write to a register other than CMD: an RW register stores the value truncated to its width, an RO register
ignores it (10_state.md R22, R23, R24). A write to CMD is `dispatchCommand`. -/
def State.writeReg (s : State) (r : Reg) (v : Word) : State :=
  match r with
  | .txDest      => s.setTx { s.tx with dest := v }
  | .txService   => s.setTx { s.tx with service := v.truncate 8 }
  | .txObjType   => s.setTx { s.tx with objType := v.truncate 16 }
  | .txObjId     => s.setTx { s.tx with objId := v }
  | .txPropId    => s.setTx { s.tx with propId := v.truncate 16 }
  | .txValueLen  => s.setTx { s.tx with valueLen := v.truncate 16 }
  | .rxCap       => s.setRxCap (v.truncate 16)
  | .cmd | .status | .chk | .txFrameLen | .rxHdrFlags | .rxSrc | .rxDest | .rxBodyLen | .rxBodyFlags | .rxService
  | .rxObjType | .rxObjId | .rxPropId | .rxValueLen | .rxErrCode | .codecInt | .codecFloat => s

/-- A host word read: a register, a window's four bytes little-endian, or 0 where nothing is mapped
(20_memory.md R53, R54, R55). -/
def State.busRead (s : State) (offset : Nat) : Word :=
  match regAt offset with
  | some r => s.readReg r
  | none   =>
    match windowAt offset with
    | some (m, i) => le32 (s.memRead m i 4) 0
    | none        => 0

/-- A host word write other than to CMD: a register, TXVAL's four bytes little-endian; the RO windows and unmapped
offsets ignore it (20_memory.md R53, R54, R55). -/
def State.busWrite (s : State) (offset : Nat) (v : Word) : State :=
  match regAt offset with
  | some r => s.writeReg r v
  | none   =>
    match windowAt offset with
    | some (.txval, i)   => s.storeBytes .txval i (bytesLe v 4)
    | some (.scratch, _) => s
    | some (.rxval, _)   => s
    | none               => s

/-- A write of word `w` to CMD: BUSY first, then legality, then the command (30_encoding.md R71; 60_exceptions.md R138). -/
def dispatchCommand (run : Instr → State → Out) (w : Word) (s : State) : Out :=
  if s.status.busy then .next s.busyFault
  else
    match decodeWord w with
    | none   => .next (illegalCommand s)
    | some i => run i s

/-- One host access (20_memory.md R56, R60). A sub-word or misaligned one is refused (entry 9). A read leaves its word on
the bus and changes nothing else; a write to CMD issues a command (10_state.md R28). -/
def hostAccess (command : Word → State → Out) (a : Access) (s : State) : Out :=
  if !a.isWord then .refused .notWordAccess
  else if !a.aligned then .refused .misalignedAccess
  else
    match a with
    | .read offset _    => .next (s.setBusData (s.busRead offset.toNat))
    | .write offset _ v =>
      if regAt offset.toNat = some .cmd then command v s else .next (s.busWrite offset.toNat v)

end Sys2Proof.Machine
end

