-- ==== Sys2Proof/Machine/ChecksumUnit.lean ====
section
/-! DEFINITION. The checksum unit (40_checksum.md): the function, CHK_INIT and CHK_BYTE. -/

namespace Sys2Proof.Machine

open Sys2Proof

/-- The function's initial state, A = 0xFF and B = 0x00 (40_checksum.md R88, R91). -/
def checksumInit : Checksum := { a := 0xFF, b := 0x00 }

/-- One input byte: A <- A + b, then B <- B + A with the A just updated, both mod 256 (40_checksum.md R88). -/
def checksumByte (c : Checksum) (b : Byte) : Checksum := { a := c.a + b, b := c.b + (c.a + b) }

/-- `checksum(s)` (40_checksum.md R88). -/
def checksum (bs : List Byte) : Checksum := bs.foldl checksumByte checksumInit

/-- CHK_INIT (40_checksum.md R92). -/
def chkInit (s : State) : State := (s.setChk checksumInit).finish .ok

/-- CHK_BYTE b (40_checksum.md R93). -/
def chkByte (b : Byte) (s : State) : State := (s.setChk (checksumByte s.chk b)).finish .ok

/-- The meaning of CHK_INIT (40_checksum.md R92). -/
def execChkInit (s : State) : Out := .next (issue chkInit s)

/-- The meaning of CHK_BYTE (40_checksum.md R93). -/
def execChkByte (b : Byte) (s : State) : Out := .next (issue (chkByte b) s)

end Sys2Proof.Machine
end

