-- ==== Sys2Proof/Machine/Decoder.lean ====
section
/-! DEFINITION. The frame synchronizer and decoder (42_decoder.md): DECODE's start step and its receive steps. -/

namespace Sys2Proof.Machine

open Sys2Proof

/-- DECODE_START (42_decoder.md R104, R105). A refused start keeps the RX_* registers, RX_VALUE_LEN too, as R105 says.
DESIGN CHOICE (entry 20): 43_codec.md R130 calls RX_VALUE_LEN 0 after any DECODE that did not finish OK. -/
def decodeStart (s : State) : State :=
  if s.rxCap.toNat > s.cfg.rxvalBytes then s.finish .illegalCommand
  else
    { s with
      rx     := RxRegs.zero
      decCap := s.rxCap
      decPos := 0
      status := { s.status with outcome := .none, phase := .seekStart, busy := true } }

/-- The meaning of DECODE: its start step; the receive steps follow as the block's turns (42_decoder.md R104). -/
def execDecode (s : State) : Out := .next (issue decodeStart s)

/-- SEEK(ev) (42_decoder.md R107). -/
def seek (ev : RxEvent) (s : State) : State :=
  match ev with
  | .byte b  =>
    if b = startMarker then
      ((s.storeBytes .scratch 0 [startMarker]).setDecPos 1).setPhase .readHeader
    else s
  | .timeout => s.finish .portTimeout
  | .ioFault => s.finish .portReadFailed

/-- A received byte goes to the next frame position (42_decoder.md R108, R113). -/
def storeFrameByte (b : Byte) (s : State) : State :=
  (s.storeBytes .scratch s.decPos.toNat [b]).setDecPos (s.decPos + 1)

/-- LATCH_HEADER(hdr) (42_decoder.md R111). -/
def latchHeader (hdr : List Byte) (s : State) : State :=
  s.setRx { s.rx with
    hdrFlags := byteOf hdr 0
    src      := le32 hdr 1
    dest     := le32 hdr 5
    bodyLen  := le16 hdr 9 }

/-- The latched header's body fits SCRATCH, or the DECODE ends (42_decoder.md R112). -/
def acceptHeader (s : State) : State :=
  if 16 + s.rx.bodyLen.toNat > s.cfg.frameBufCap then s.finish .bufferTooSmall
  else s.setPhase .readBody

/-- VALIDATE_HEADER (42_decoder.md R110). -/
def validateHeader (s : State) : State :=
  if checksum (s.memRead .scratch 1 11) = { a := s.byteAt .scratch 12, b := s.byteAt .scratch 13 } then
    acceptHeader (latchHeader (s.memRead .scratch 1 11) s)
  else s.finish .headerChecksumMismatch

/-- HEADER(ev) (42_decoder.md R108, R109). -/
def header (ev : RxEvent) (s : State) : State :=
  match ev with
  | .byte b  =>
    if (storeFrameByte b s).decPos.toNat = 14 then validateHeader (storeFrameByte b s) else storeFrameByte b s
  | .timeout => s.finish .portReadFailed
  | .ioFault => s.finish .portReadFailed

/-- DELIVER(Y, L): the value, and a terminating zero where there is spare capacity (42_decoder.md R118). -/
def deliver (y : List Byte) (s : State) : State :=
  if y.length - 10 > s.decCap.toNat then s.finish .bufferTooSmall
  else
    ((s.storeBytes .rxval 0 (y.drop 10 ++ if y.length - 10 < s.decCap.toNat then [0x00] else [])).setRx
      { s.rx with valueLen := BitVec.ofNat 16 (y.length - 10) }).finish .ok

/-- The object registers of a property body (42_decoder.md R114; 43_codec.md R125). -/
def latchObject (y : List Byte) (s : State) : State :=
  s.setRx { s.rx with
    objType := le16 y 2
    objId   := le32 y 4
    propId  := le16 y 8 }

/-- RX_BODY_FLAGS and RX_SERVICE, as far as the body has them (42_decoder.md R114, the first two lines). -/
def latchBody (y : List Byte) (s : State) : State :=
  s.setRx { s.rx with
    bodyFlags := if 1 ≤ y.length then byteOf y 0 else s.rx.bodyFlags
    service   := if 2 ≤ y.length then byteOf y 1 else s.rx.service }

/-- A service id of a property body: 1 read_property, 2 write_property (30_encoding.md R78; 42_decoder.md R117). -/
def isPropertyService (service : Byte) : Bool := decide (service = 1#8) || decide (service = 2#8)

/-- The checks of CLASSIFY in their order; the first that applies decides (42_decoder.md R114-R117; 60_exceptions.md R138). -/
def classifyLatched (y : List Byte) (s : State) : State :=
  if y.length < 2 then s.finish .invalidFrame
  else if isApplicationError (byteOf y 0) then
    if y.length - 2 = 2 then (s.setRx { s.rx with errCode := le16 y 2 }).finish .applicationError
    else s.finish .invalidFrame
  else if !isResponse (byteOf y 0) then s.finish .foreignRequest
  else if !isPropertyService (byteOf y 1) then s.finish .invalidFrame
  else if y.length < 10 then s.finish .invalidFrame
  else deliver y (latchObject y s)

/-- CLASSIFY(Y, L), L the length of Y (42_decoder.md R114). -/
def classify (y : List Byte) (s : State) : State := classifyLatched y (latchBody y s)

/-- VALIDATE_BODY (42_decoder.md R113). -/
def validateBody (s : State) : State :=
  if checksum (s.memRead .scratch 14 s.rx.bodyLen.toNat) =
      { a := s.byteAt .scratch (14 + s.rx.bodyLen.toNat), b := s.byteAt .scratch (15 + s.rx.bodyLen.toNat) } then
    classify (s.memRead .scratch 14 s.rx.bodyLen.toNat) s
  else s.finish .bodyChecksumMismatch

/-- BODY(ev) (42_decoder.md R113). -/
def body (ev : RxEvent) (s : State) : State :=
  match ev with
  | .byte b  =>
    if (storeFrameByte b s).decPos.toNat = 16 + s.rx.bodyLen.toNat then validateBody (storeFrameByte b s)
    else storeFrameByte b s
  | .timeout => s.finish .portReadFailed
  | .ioFault => s.finish .portReadFailed

/-- DECODE_STEP on an event (42_decoder.md R106). The phases without an arm never occur (10_state.md R26; entry 8). -/
def receiveStep (ev : RxEvent) (s : State) : Out :=
  match s.status.phase with
  | .seekStart      => .next (seek ev s)
  | .readHeader     => .next (header ev s)
  | .readBody       => .next (body ev s)
  | .idle           => .fault .noReceiveStep
  | .validateHeader => .fault .noReceiveStep
  | .validateBody   => .fault .noReceiveStep

/-- The block's turn: a receive step is enabled iff BUSY = 1 and consumes exactly one event (42_decoder.md R106); with
no answer yet, `rx_next()` blocks (00_scope.md R12; entry 4). -/
def receiveTurn (s : State) : Out :=
  if s.status.busy then
    match s.rxAnswers with
    | []        => .next s
    | ev :: evs => receiveStep ev (s.setAnswers evs)
  else .next s

end Sys2Proof.Machine
end

