-- ==== Sys2Proof/Machine/Agents.lean ====
section
/-! DEFINITION. The agents' actions and whose turn it is (00_scope.md R14, R16; 20_memory.md R61). -/

namespace Sys2Proof.Machine

open Sys2Proof

/-- `transmit.write(bytes)`: the transmit transport accepts the first `k` bytes and reports how many that was
(60_exceptions.md R145; entry 5). -/
def transmitWrite (bytes : List Byte) (k : Nat) (s : State) : State :=
  { s with sent := s.sent ++ bytes.take k, accepted := (bytes.take k).length }

/-- One action of one agent (00_scope.md R16); `command` is what a write of a word to CMD does. -/
def act (command : Word → State → Out) (a : Action) (s : State) : Out :=
  match a with
  | .host access      => hostAccess command access s
  | .receive          => receiveTurn s
  | .arrive e         => .next (s.setAnswers (s.rxAnswers ++ [e]))
  | .transmit bytes k => .next (transmitWrite bytes k s)
  | .reset            => .next s.platformReset

/-- The next action of the agenda; with nothing on it, the block's turn (20_memory.md R61; entry 3). -/
def turn (command : Word → State → Out) (s : State) : Out :=
  match s.agenda with
  | []        => receiveTurn s
  | a :: rest => act command a (s.setAgenda rest)

/-- The agenda with the host's next action a write of `w`, its low `nbits` bits, to CMD (10_state.md R28; entry 11). -/
def State.withCommand (s : State) (nbits w : Nat) : State :=
  s.setAgenda (.host (.write 0x00000#20 4 (BitVec.ofNat 32 (w % 2 ^ nbits))) :: s.agenda)

end Sys2Proof.Machine
end

