-- ==== Sys2Proof/Machine/Codec.lean ====
section
/-! DEFINITION. The property codec's scalar readers (43_codec.md): AS_INT and AS_FLOAT. -/

namespace Sys2Proof.Machine

open Sys2Proof

/-- `as_integer(s)` (43_codec.md R127). -/
def asInteger (s : List Byte) : Word :=
  if 4 ≤ s.length then le32 s 0
  else if 2 ≤ s.length then (le16 s 0).zeroExtend 32
  else 0

/-- `as_float(s)`: the pattern as it stands, or +0.0 (43_codec.md R128). -/
def asFloat (s : List Byte) : Word :=
  if 4 ≤ s.length then le32 s 0 else 0x00000000

/-- The last delivered value, RXVAL[0..RX_VALUE_LEN) (43_codec.md R130). -/
def State.rxValue (s : State) : List Byte := s.memRead .rxval 0 s.rx.valueLen.toNat

/-- AS_INT (43_codec.md R130). -/
def convertInt (s : State) : State := (s.setCodecInt (asInteger s.rxValue)).finish .ok

/-- AS_FLOAT (43_codec.md R131). -/
def convertFloat (s : State) : State := (s.setCodecFloat (asFloat s.rxValue)).finish .ok

/-- The meaning of AS_INT (43_codec.md R130). -/
def execAsInt (s : State) : Out := .next (issue convertInt s)

/-- The meaning of AS_FLOAT (43_codec.md R131). -/
def execAsFloat (s : State) : Out := .next (issue convertFloat s)

end Sys2Proof.Machine
end

