-- ==== Sys2Proof/Machine/Encoder.lean ====
section
/-! DEFINITION. The frame encoder (41_encoder.md): ENCODE. -/

namespace Sys2Proof.Machine

open Sys2Proof

/-- The 11 header bytes: flags, source_address, destination_address, body_length (30_encoding.md R75; 41_encoder.md R98). -/
def headerBytes (flags : Byte) (src dest : Word) (bodyLen : Half) : List Byte :=
  [flags] ++ bytesLe src 4 ++ bytesLe dest 4 ++ bytesLe bodyLen 2

/-- A property body (43_codec.md R125; 41_encoder.md R99). -/
def propertyBody (flags service : Byte) (objType : Half) (objId : Word) (propId : Half) (value : List Byte) :
    List Byte :=
  [flags, service] ++ bytesLe objType 2 ++ bytesLe objId 4 ++ bytesLe propId 2 ++ value

/-- A frame: START, header, header checksum, body, body checksum (30_encoding.md R74, R75; 41_encoder.md R100). -/
def frameOf (hdr body : List Byte) : List Byte :=
  [startMarker] ++ hdr ++ (checksum hdr).bytes ++ body ++ (checksum body).bytes

/-- N, the number of value bytes of the descriptor (10_state.md R31). -/
def State.txLen (s : State) : Nat := s.tx.valueLen.toNat

/-- The value bytes TXVAL[0..N) (41_encoder.md R96). -/
def State.txValue (s : State) : List Byte := s.memRead .txval 0 s.txLen

/-- The frame of the transaction descriptor, 26 + N bytes (41_encoder.md R96). -/
def State.requestFrame (s : State) : List Byte :=
  frameOf (headerBytes 0x00 localAddr s.tx.dest (BitVec.ofNat 16 (10 + s.txLen)))
    (propertyBody 0x00 s.tx.service s.tx.objType s.tx.objId s.tx.propId s.txValue)

/-- ENCODE (41_encoder.md R96, R97). -/
def encodeFrame (s : State) : State :=
  if 26 + s.txLen > s.cfg.frameBufCap then
    (s.setTxFrameLen 0).finish .bufferTooSmall
  else
    ((s.storeBytes .scratch 0 s.requestFrame).setTxFrameLen (BitVec.ofNat 17 (26 + s.txLen))).finish .ok

/-- The meaning of ENCODE (41_encoder.md R96). -/
def execEncode (s : State) : Out := .next (issue encodeFrame s)

end Sys2Proof.Machine
end

