-- ==== Sys2Proof/Machine/Dispatch.lean ====
section
/-! DEFINITION. One arm per command (30_encoding.md R71). -/

namespace Sys2Proof.Machine

open Sys2Proof

/-- The effect of issuing a command (30_encoding.md R71). -/
def exec (i : Instr) (s : State) : Host.Outcome State Fault Refusal :=
  match i with
  | .chkInit => Sys2Proof.Machine.execChkInit s
  | .chkByte b => Sys2Proof.Machine.execChkByte b s
  | .encode => Sys2Proof.Machine.execEncode s
  | .decode => Sys2Proof.Machine.execDecode s
  | .asInt => Sys2Proof.Machine.execAsInt s
  | .asFloat => Sys2Proof.Machine.execAsFloat s

end Sys2Proof.Machine
end

