-- ==== Sys2Proof/Machine/Step.lean ====
section
/-! DEFINITION. One step of the machine (00_scope.md R14). -/

namespace Sys2Proof.Machine

open Sys2Proof

/-- What a write of a word to CMD does (30_encoding.md R71). -/
def commandWrite (w : Word) (s : State) : Host.Outcome State Fault Refusal := dispatchCommand exec w s

/-- One atomic step: the next action in the one total order (20_memory.md R61), untimed (entry 16). -/
def step (s : State) : Host.Outcome State Fault Refusal := turn commandWrite s

/-- The state whose next action is the host's CMD write of the word. The block fetches nothing (10_state.md R21); this
stands where another machine's instruction is placed at its program counter (entry 11). -/
def State.withFetchWord (s : State) (nbits w : Nat) : State := s.withCommand nbits w

end Sys2Proof.Machine
end

