-- ==== Sys2Proof/Machine/HostProcedure.lean ====
section
/-! DEFINITION. The host's procedure `perform` (60_exceptions.md R153-R157) and a DECODE's result as the source's sum
(R137). The procedure is not part of the block (00_scope.md R6): it is a function that drives the block through its bus
and the transports, with no other agent acting in between (entry 14). -/

namespace Sys2Proof.Machine

open Sys2Proof

/-- A DECODE's result (60_exceptions.md R137; 90_conflicts.md C4). -/
inductive DecodeResult where
  | ok (sourceAddress : Word) (serviceId : Byte) (objectType : Half) (objectId : Word) (propertyId : Half)
      (value : List Byte)
  | applicationError (code : Half)
  | foreignRequest
  | protocolError (kind : OutcomeCode)
deriving DecidableEq, Repr

/-- The result a finished DECODE's registers present (60_exceptions.md R137). -/
def State.decodeResult (s : State) : DecodeResult :=
  match s.status.outcome with
  | .ok               => .ok s.rx.src s.rx.service s.rx.objType s.rx.objId s.rx.propId s.rxValue
  | .applicationError => .applicationError s.rx.errCode
  | .foreignRequest   => .foreignRequest
  | kind              => .protocolError kind

/-- A transaction: the descriptor of 10_state.md R31 with its value bytes, and the caller's maximum receive-buffer
length. -/
structure Transaction where
  dest    : Word
  service : Byte
  objType : Half
  objId   : Word
  propId  : Half
  value   : List Byte
  rxCap   : Half
deriving DecidableEq, Repr

/-- What `perform` comes to: its result (none where the transport never answers, 93_implementation_defined.md I11), how
many DECODEs it issued, and the machine then. -/
structure Performed where
  result  : Option DecodeResult
  decodes : Nat
  state   : State
deriving DecidableEq, Repr

/-- The host writes a register at its offset (30_encoding.md R73, `WR`). -/
def hostWriteReg (r : Reg) (v : Word) (s : State) : State := s.busWrite r.offset v

/-- `FILL TXVAL` (30_encoding.md R73): one word write per four value bytes, missing bytes 0. -/
def fillTxval (value : List Byte) (s : State) : State :=
  (List.range ((value.length + 3) / 4)).foldl (fun t j => t.busWrite (0x40000 + 4 * j) (le32 value (4 * j))) s

/-- The first line of `perform`: the descriptor, the value bytes and RX_CAP (60_exceptions.md R153, R157). -/
def writeTransaction (tx : Transaction) (s : State) : State :=
  hostWriteReg .rxCap (tx.rxCap.zeroExtend 32)
    (fillTxval tx.value
      (hostWriteReg .txValueLen (BitVec.ofNat 32 tx.value.length)
        (hostWriteReg .txPropId (tx.propId.zeroExtend 32)
          (hostWriteReg .txObjId tx.objId
            (hostWriteReg .txObjType (tx.objType.zeroExtend 32)
              (hostWriteReg .txService (tx.service.zeroExtend 32)
                (hostWriteReg .txDest tx.dest s)))))))

/-- The host writes a command's word to CMD. Every command answers a next state, so the other two cases never happen. -/
def hostCommand (i : Instr) (s : State) : State :=
  match commandWrite (encode i) s with
  | .next t    => t
  | .fault _   => s
  | .refused _ => s

/-- The host reads the first `n` bytes of SCRATCH through its window, word by word (30_encoding.md R73, `SEND`;
60_exceptions.md R154). -/
def readScratch (n : Nat) (s : State) : List Byte :=
  ((List.range ((n + 3) / 4)).flatMap fun j => bytesLe (s.busRead (0x20000 + 4 * j)) 4).take n

/-- The host waits while the block takes its turns, at most one for each element of the list. -/
def waitTurns : List RxEvent → State → State
  | [], s        => s
  | _ :: more, s =>
    if s.status.busy then
      match receiveTurn s with
      | .next t    => waitTurns more t
      | .fault _   => s
      | .refused _ => s
    else s

/-- "wait until STATUS.BUSY = 0" (60_exceptions.md R153), as far as the answers of the receive transport bring it. -/
def waitWhileBusy (s : State) : State := waitTurns s.rxAnswers s

/-- "CMD <- DECODE; wait until STATUS.BUSY = 0" (60_exceptions.md R153). -/
def hostDecode (s : State) : State := waitWhileBusy (hostCommand .decode s)

/-- The loop of `perform` with `retries` retries left (60_exceptions.md R153, R155). -/
def decodeAttempts : Nat → State → Performed
  | 0, s =>
    let t := hostDecode s
    if t.status.busy then { result := none, decodes := 1, state := t }
    else if t.status.outcome = .foreignRequest then
      { result := some (.protocolError .portReadFailed), decodes := 1, state := t }
    else { result := some t.decodeResult, decodes := 1, state := t }
  | retries + 1, s =>
    let t := hostDecode s
    if t.status.busy then { result := none, decodes := 1, state := t }
    else if t.status.outcome = .foreignRequest then
      let p := decodeAttempts retries t
      { p with decodes := p.decodes + 1 }
    else { result := some t.decodeResult, decodes := 1, state := t }

/-- After ENCODE: the transmit write, of which the transport accepts `k` bytes, and the DECODEs (60_exceptions.md R153,
R154). -/
def sendAndDecode (k : Nat) (s : State) : Performed :=
  let t := transmitWrite (readScratch s.txFrameLen.toNat s) k s
  if t.accepted < t.txFrameLen.toNat then
    { result := some (.protocolError .portWriteFailed), decodes := 0, state := t }
  else decodeAttempts foreignRetries t

/-- `perform(tx)` (60_exceptions.md R153), the transmit transport accepting `k` bytes. -/
def perform (tx : Transaction) (k : Nat) (s : State) : Performed :=
  let t := hostCommand .encode (writeTransaction tx s)
  if t.status.outcome = .bufferTooSmall then
    { result := some (.protocolError .bufferTooSmall), decodes := 0, state := t }
  else sendAndDecode k t

end Sys2Proof.Machine
end

