-- ==== Sys2Proof/Safety.lean ====
section
/-! DEFINITION. What a claim may call a good state of this machine: the faulted states of 10_state.md R27, and the
invariant that rules out the states no run reaches. -/

namespace Sys2Proof.Machine

open Sys2Proof

/-- "A model must treat a state with FAULT_BUSY = 1 as faulted" (10_state.md R27). -/
def State.faulted (s : State) : Bool := s.status.faultBusy

/-- STATUS after `finish(code)`: OUTCOME = code, BUSY = 0, PHASE = IDLE, FAULT_BUSY as it was (00_scope.md R12). -/
def Status.ended (st : Status) (code : OutcomeCode) : Status :=
  { busy := false, phase := .idle, outcome := code, faultBusy := st.faultBusy }

/-- The host's next action is a word write of `w` to CMD, and `rest` comes after it. -/
abbrev State.atCmdWrite (s : State) (w : Word) (rest : List Action) : Prop :=
  s.agenda = .host (.write 0x00000#20 4 w) :: rest

/-- The word an action writes to CMD, if it writes one. -/
def Action.commandWord : Action → Option Word
  | .host (.write offset _ w) => if offset = 0x00000#20 then some w else none
  | .host (.read _ _)         => none
  | .receive                  => none
  | .arrive _                 => none
  | .transmit _ _             => none
  | .reset                    => none

/-- The action is no reset and no access that is refused. -/
def Action.quiet : Action → Bool
  | .host access  => access.wf
  | .receive      => true
  | .arrive _     => true
  | .transmit _ _ => true
  | .reset        => false

/-- It is the block's turn (its own action, or nothing else to come), and `rest` comes after it. -/
abbrev State.atTurn (s : State) (rest : List Action) : Prop :=
  s.agenda = [] ∧ rest = [] ∨ s.agenda = .receive :: rest

/-- A DECODE is running, it is the block's turn, and the receive transport's next answer is `ev`. -/
abbrev State.receives (s : State) (ev : RxEvent) (evs : List RxEvent) (rest : List Action) : Prop :=
  s.atTurn rest ∧ s.status.busy = true ∧ s.rxAnswers = ev :: evs

/-- The body received so far in READ_BODY, SCRATCH[14..14+L) (42_decoder.md R113). -/
def State.receivedBody (s : State) : List Byte := s.memRead .scratch 14 s.rx.bodyLen.toNat

/-- The byte `b` now received is the last of the frame, the body's second checksum byte (42_decoder.md R113). -/
abbrev State.receivesLast (s : State) (b : Byte) (evs : List RxEvent) (rest : List Action) : Prop :=
  s.receives (.byte b) evs rest ∧ s.status.phase = .readBody ∧ s.decPos.toNat = 15 + s.rx.bodyLen.toNat ∧
    16 + s.rx.bodyLen.toNat ≤ s.cfg.frameBufCap

/-- A body that is a property response: no error bit, the response bit, service 1 or 2, room for the property header
(42_decoder.md R117). -/
abbrev propertyResponse (y : List Byte) : Prop :=
  10 ≤ y.length ∧ (byteOf y 0).getLsbD 0 = false ∧ (byteOf y 0).getLsbD 1 = true ∧
    (byteOf y 1 = 1#8 ∨ byteOf y 1 = 2#8)

/-- A frame's bytes with the body flags byte set to 0x02 and the body checksum recomputed: the response that a frame of
the encoder gets in 41_encoder.md R103. -/
def asResponse (frame : List Byte) : List Byte :=
  let body := 0x02#8 :: (frame.drop 15).dropLast.dropLast
  frame.take 14 ++ body ++ [(checksum body).a, (checksum body).b]

/-- A memory in canonical form, listing no index at or past its size. -/
abbrev State.memWf (s : State) (m : MemId) : Prop :=
  Memory.wf (Draw.byte s.draw m) (s.mem m) ∧ ∀ c ∈ s.mem m, c.1 < s.memSize m

/-- The three memories are well formed. -/
abbrev State.memoriesWf (s : State) : Prop := s.memWf .scratch ∧ s.memWf .txval ∧ s.memWf .rxval

/-- PHASE between steps is IDLE, SEEK_START, READ_HEADER or READ_BODY, and it is IDLE exactly while no DECODE runs
(10_state.md R25, R26). -/
abbrev State.phaseOk (s : State) : Prop :=
  match s.status.phase with
  | .idle           => s.status.busy = false
  | .seekStart      => s.status.busy = true
  | .readHeader     => s.status.busy = true
  | .readBody       => s.status.busy = true
  | .validateHeader => False
  | .validateBody   => False

/-- dec_pos in each phase: "It is 0 in SEEK_START. It is 1 after the start marker, 14 after the header checksum"
(10_state.md R38); and a body in progress fits SCRATCH (42_decoder.md R112). -/
abbrev State.positionOk (s : State) : Prop :=
  match s.status.phase with
  | .seekStart      => s.decPos.toNat = 0
  | .readHeader     => 1 ≤ s.decPos.toNat ∧ s.decPos.toNat < 14
  | .readBody       => 14 ≤ s.decPos.toNat ∧ s.decPos.toNat < 16 + s.rx.bodyLen.toNat ∧
                       16 + s.rx.bodyLen.toNat ≤ s.cfg.frameBufCap
  | .idle           => True
  | .validateHeader => True
  | .validateBody   => True

/-- The start marker stands at SCRATCH[0] from READ_HEADER on (42_decoder.md R107), and in READ_BODY the header in
SCRATCH is the one that validated and was latched (42_decoder.md R110, R111). -/
abbrev State.headerOk (s : State) : Prop :=
  match s.status.phase with
  | .readHeader     => s.byteAt .scratch 0 = startMarker
  | .readBody       => s.byteAt .scratch 0 = startMarker ∧
                       checksum (s.memRead .scratch 1 11) =
                         { a := s.byteAt .scratch 12, b := s.byteAt .scratch 13 } ∧
                       s.rx.bodyLen = le16 (s.memRead .scratch 1 11) 9 ∧
                       s.rx.src = le32 (s.memRead .scratch 1 11) 1
  | .idle           => True
  | .seekStart      => True
  | .validateHeader => True
  | .validateBody   => True

/-- OUTCOME is NONE while a DECODE runs (10_state.md R25) and never PORT_WRITE_FAILED (30_encoding.md R86). -/
abbrev State.outcomeOk (s : State) : Prop :=
  (s.status.busy = true → s.status.outcome = .none) ∧ s.status.outcome ≠ .portWriteFailed

/-- The lengths stay inside the memories they describe (42_decoder.md R105, R118; 10_state.md R32). -/
abbrev State.lengthsOk (s : State) : Prop :=
  (s.status.busy = true → s.decCap.toNat ≤ s.cfg.rxvalBytes) ∧
  s.rx.valueLen.toNat ≤ s.cfg.rxvalBytes ∧
  (s.txFrameLen.toNat = 0 ∨ 26 ≤ s.txFrameLen.toNat ∧ s.txFrameLen.toNat ≤ s.cfg.frameBufCap)

/-- The invariant of the machine. -/
structure State.Inv (s : State) : Prop where
  memories : s.memoriesWf
  phase    : s.phaseOk
  position : s.positionOk
  header   : s.headerOk
  outcome  : s.outcomeOk
  lengths  : s.lengthsOk

end Sys2Proof.Machine
end

