-- ==== Sys2Proof/Certificates/Slice0/Obligations.lean ====
section
/-! DEFINITION. The statements for the provers. -/

open Sys2Proof Sys2Proof.Machine

/-! ## Encoding -/

/-- The command words of 30_encoding.md R69, bit by bit, and the illegal words of 95_test_vectors.md V-CK-19, V-CK-20. -/
def Obligations.TableWordsDecodeAsWritten : Prop :=
  decodeTableWord 32 0b00000000000000000000000000000001 = some .chkInit ∧
  decodeTableWord 32 0b00000000000000000101101000000010 = some (.chkByte 0x5A) ∧
  decodeTableWord 32 0b00000000000000000000000000000011 = some .encode ∧
  decodeTableWord 32 0b00000000000000000000000000000100 = some .decode ∧
  decodeTableWord 32 0b00000000000000000000000000000101 = some .asInt ∧
  decodeTableWord 32 0b00000000000000000000000000000110 = some .asFloat ∧
  decodeTableWord 32 0x00000000 = none ∧
  decodeTableWord 32 0x00000007 = none ∧
  decodeTableWord 32 0x0000000F = none ∧
  decodeTableWord 32 0x00000012 = none ∧
  decodeTableWord 32 0x00010002 = none ∧
  decodeTableWord 32 0x00000101 = none

/-- 30_encoding.md R66: which words are legal, and that every other word is not. -/
def Obligations.LegalWordsAreExactlyTheDecodedOnes : Prop :=
  ∀ w : Word, (decodeWord w).isSome = true ↔
    (1 ≤ bitsOf w 3 0 ∧ bitsOf w 3 0 ≤ 6) ∧ (bitsOf w 7 4 = 0 ∧ bitsOf w 31 16 = 0) ∧
      (bitsOf w 15 8 = 0 ∨ bitsOf w 3 0 = 2)

/-- Decoding and encoding are inverse to each other, every operand at every value, both ways. -/
def Obligations.DecodeAndEncodeAreInverse : Prop :=
  ∀ (i : Instr) (w : Word), i.wf = true → (decodeWord w = some i ↔ w = encode i)

/-- 30_encoding.md R69: the opcode map, row by row with its match and mask, and the OPs that no command has; R67: the
operand of CHK_BYTE is w[15:8]. -/
def Obligations.OpcodeMapRowsDecideTheCommand : Prop :=
  ∀ w : Word,
    (decodeWord w = some .chkInit ↔ w &&& 0xFFFFFFFF#32 = 0x00000001#32) ∧
    ((∃ b, decodeWord w = some (.chkByte b)) ↔ w &&& 0xFFFF00FF#32 = 0x00000002#32) ∧
    (∀ b, decodeWord w = some (.chkByte b) → b = w.extractLsb' 8 8) ∧
    (decodeWord w = some .encode ↔ w &&& 0xFFFFFFFF#32 = 0x00000003#32) ∧
    (decodeWord w = some .decode ↔ w &&& 0xFFFFFFFF#32 = 0x00000004#32) ∧
    (decodeWord w = some .asInt ↔ w &&& 0xFFFFFFFF#32 = 0x00000005#32) ∧
    (decodeWord w = some .asFloat ↔ w &&& 0xFFFFFFFF#32 = 0x00000006#32) ∧
    (bitsOf w 3 0 = 0 ∨ 7 ≤ bitsOf w 3 0 → decodeWord w = none)

/-! ## Issuing a command -/

/-- A step whose next action is a CMD write of a command's word runs that command and takes the write off the agenda. -/
def Obligations.StepRunsTheDecodedCommand : Prop :=
  (∀ (s : State) (w : Word) (rest : List Action) (i : Instr),
    s.atCmdWrite w rest → decodeWord w = some i → step s = exec i { s with agenda := rest }) ∧
  (∀ (s : State) (i : Instr), step (s.withFetchWord 32 (encode i).toNat) = exec i s)

/-- 30_encoding.md R71: the dispatch of a CMD write by w[3:0], and which commands are over in that step. -/
def Obligations.CmdWriteDispatch : Prop :=
  ∀ (s : State) (w : Word) (rest : List Action), s.atCmdWrite w rest →
    let u := { s with agenda := rest }
    (s.status.busy = true → step s = .next { u with status := { s.status with faultBusy := true } }) ∧
    (s.status.busy = false → legal w = false → step s = .next { u with status := s.status.ended .illegalCommand }) ∧
    (s.status.busy = false → legal w = true →
      (bitsOf w 3 0 = 1 → step s = exec .chkInit u) ∧
      (bitsOf w 3 0 = 2 → step s = exec (.chkByte (w.extractLsb' 8 8)) u) ∧
      (bitsOf w 3 0 = 3 → step s = exec .encode u) ∧
      (bitsOf w 3 0 = 4 → step s = exec .decode u) ∧
      (bitsOf w 3 0 = 5 → step s = exec .asInt u) ∧
      (bitsOf w 3 0 = 6 → step s = exec .asFloat u) ∧
      ∃ t, step s = .next t ∧
        (t.status.busy = true ↔ bitsOf w 3 0 = 4 ∧ s.rxCap.toNat ≤ s.cfg.rxvalBytes))

/-- 60_exceptions.md R146: a CMD write while BUSY = 1 sets FAULT_BUSY and does nothing else, whatever the word; each
command's own meaning says the same. -/
def Obligations.CmdWriteWhileBusyOnlySetsFaultBusy : Prop :=
  (∀ (s : State) (w : Word) (rest : List Action), s.atCmdWrite w rest → s.status.busy = true →
    step s = .next { s with agenda := rest, status := { s.status with faultBusy := true } }) ∧
  (∀ (s : State) (i : Instr), s.status.busy = true →
    exec i s = .next { s with status := { s.status with faultBusy := true } })

/-- 60_exceptions.md R135: the two causes of ILLEGAL_COMMAND, the only ones, and that nothing but the outcome code is
recorded. -/
def Obligations.IllegalCommandRecordsOnlyTheOutcome : Prop :=
  ∀ s : State, s.status.busy = false → s.status.phase = .idle →
    (∀ (w : Word) (rest : List Action), s.atCmdWrite w rest → legal w = false →
      step s = .next { s with agenda := rest, status := { s.status with outcome := .illegalCommand } }) ∧
    (s.rxCap.toNat > s.cfg.rxvalBytes →
      exec .decode s = .next { s with status := { s.status with outcome := .illegalCommand } }) ∧
    (∀ t, step s = .next t → t.status.outcome = .illegalCommand → s.status.outcome ≠ .illegalCommand →
      ∃ w rest, s.atCmdWrite w rest ∧
        (legal w = false ∨ decodeWord w = some .decode ∧ s.rxCap.toNat > s.cfg.rxvalBytes))

/-- 10_state.md R22, R23, R31, R35-R37, R38: what the commands leave unchanged. -/
def Obligations.CommandsFrame : Prop :=
  ∀ (i : Instr) (s t : State), exec i s = .next t →
    t.tx = s.tx ∧ t.rxCap = s.rxCap ∧ t.cfg = s.cfg ∧ t.draw = s.draw ∧ t.agenda = s.agenda ∧
    t.rxAnswers = s.rxAnswers ∧ t.sent = s.sent ∧ t.accepted = s.accepted ∧ t.busData = s.busData ∧
    (∀ j, t.byteAt .txval j = s.byteAt .txval j) ∧ (∀ j, t.byteAt .rxval j = s.byteAt .rxval j) ∧
    (i ≠ .encode → t.txFrameLen = s.txFrameLen ∧ ∀ j, t.byteAt .scratch j = s.byteAt .scratch j) ∧
    (∀ j, s.status.busy = true ∨ 26 + s.tx.valueLen.toNat > s.cfg.frameBufCap ∨ 26 + s.tx.valueLen.toNat ≤ j →
      t.byteAt .scratch j = s.byteAt .scratch j) ∧
    (i ≠ .chkInit → (∀ b, i ≠ .chkByte b) → t.chk = s.chk) ∧
    (i ≠ .asInt → t.codecInt = s.codecInt) ∧ (i ≠ .asFloat → t.codecFloat = s.codecFloat) ∧
    (i ≠ .decode → t.rx = s.rx ∧ t.decPos = s.decPos ∧ t.decCap = s.decCap) ∧
    (s.status.busy = false → t.status.faultBusy = s.status.faultBusy) ∧
    (s.status.busy = true → t.status.outcome = s.status.outcome ∧ t.status.phase = s.status.phase)

/-! ## The checksum unit -/

/-- 40_checksum.md R92. -/
def Obligations.ChkInitResetsTheChecksumUnit : Prop :=
  decodeWord 0x00000001#32 = some .chkInit ∧
  (∀ w : Word, bitsOf w 3 0 = 1 → w ≠ 0x00000001#32 → decodeWord w = none) ∧
  (∀ s : State, s.status.busy = false →
    exec .chkInit s = .next { s with chk := { a := 0xFF, b := 0x00 }, status := s.status.ended .ok }) ∧
  (∀ s t : State, s.status.busy = false → exec .chkInit s = .next t → exec .chkInit t = .next t) ∧
  (∀ s : State, s.status.busy = true →
    exec .chkInit s = .next { s with status := { s.status with faultBusy := true } })

/-- 40_checksum.md R93. -/
def Obligations.ChkByteAdvancesTheChecksumUnit : Prop :=
  (∀ b : Byte, decodeWord (b.zeroExtend 32 <<< 8 ||| 0x00000002#32) = some (.chkByte b)) ∧
  (∀ (s : State) (b : Byte), s.status.busy = false →
    exec (.chkByte b) s = .next { s with
      chk := { a := BitVec.ofNat 8 ((s.chk.a.toNat + b.toNat) % 256)
               b := BitVec.ofNat 8 ((s.chk.b.toNat + (s.chk.a.toNat + b.toNat) % 256) % 256) }
      status := s.status.ended .ok }) ∧
  (∀ (s : State) (b : Byte), s.status.busy = true →
    exec (.chkByte b) s = .next { s with status := { s.status with faultBusy := true } })

/-- 40_checksum.md R94: CHK_INIT and one CHK_BYTE for each byte of a span leave its checksum in CHK, provided no other
command intervenes: other accesses, transport events and turns of the block may. -/
def Obligations.CommandSequenceComputesTheChecksum : Prop :=
  ∀ (s : State) (bs : List Byte) (acts rest : List Action), s.status.busy = false →
    (∀ a ∈ acts, a.quiet = true) →
    acts.filterMap Action.commandWord = (Instr.chkInit :: bs.map Instr.chkByte).map encode →
    ∃ t, Host.Core.run Sys2Proof.core acts.length { s with agenda := acts ++ rest } = .next t ∧
      t.agenda = rest ∧ t.chk = checksum bs ∧ t.status = s.status.ended .ok

/-- 40_checksum.md R89: the closed form (s_i counted from 1 there, from 0 here), and that the order of the bytes counts. -/
def Obligations.ChecksumClosedForm : Prop :=
  (∀ bs : List Byte,
    (checksum bs).a.toNat = (0xFF + (bs.map fun b => b.toNat).sum) % 256 ∧
    (checksum bs).b.toNat =
      (bs.length * 0xFF + ((List.range bs.length).map fun i => (bs.length - i) * (byteOf bs i).toNat).sum) % 256) ∧
  (∃ (bs : List Byte) (b c : Byte), checksum (bs ++ [b, c]) ≠ checksum (bs ++ [c, b]))

/-- 40_checksum.md R90, R91: one changed byte changes A; B changes unless the weighted difference is 0 mod 256; and two
sequences can have the same pair. -/
def Obligations.OneChangedByteChangesA : Prop :=
  (∀ (pre post : List Byte) (b c : Byte), b ≠ c →
    (checksum (pre ++ b :: post)).a ≠ (checksum (pre ++ c :: post)).a ∧
    ((checksum (pre ++ b :: post)).b = (checksum (pre ++ c :: post)).b ↔
      (post.length + 1) * (b - c).toNat % 256 = 0)) ∧
  checksum [] = { a := 0xFF, b := 0x00 } ∧
  checksum (List.replicate 256 0x00) = { a := 0xFF, b := 0x00 }

/-- 10_state.md R29, 40_checksum.md R95: CHK is A and B, only CHK_INIT and CHK_BYTE (and reset) change it, and what
ENCODE and DECODE do does not depend on it. -/
def Obligations.OnlyChecksumCommandsChangeChk : Prop :=
  (∀ s : State, (s.busRead 0x008).toNat = s.chk.a.toNat + 256 * s.chk.b.toNat) ∧
  (∀ s t : State, step s = .next t → t.chk ≠ s.chk →
    (∃ rest, s.agenda = .reset :: rest) ∨
    (∃ w rest, s.atCmdWrite w rest ∧
      (decodeWord w = some .chkInit ∨ ∃ b, decodeWord w = some (.chkByte b)))) ∧
  (∀ (s t : State) (c : Checksum),
    (exec .encode s = .next t → exec .encode { s with chk := c } = .next { t with chk := c }) ∧
    (exec .decode s = .next t → exec .decode { s with chk := c } = .next { t with chk := c }) ∧
    (receiveTurn s = .next t → receiveTurn { s with chk := c } = .next { t with chk := c }))

/-! ## The encoder -/

/-- 41_encoder.md R96: the frame in SCRATCH, its length, and nothing else; or BUFFER_TOO_SMALL. -/
def Obligations.EncodeBuildsTheFrameOfTheDescriptor : Prop :=
  decodeWord 0x00000003#32 = some .encode ∧
  (∀ s : State, s.status.busy = true →
    exec .encode s = .next { s with status := { s.status with faultBusy := true } }) ∧
  ∀ s : State, s.status.busy = false →
    let n := s.tx.valueLen.toNat
    let hdr := [0x00#8] ++ bytesLe 1#32 4 ++ bytesLe s.tx.dest 4 ++ bytesLe (BitVec.ofNat 16 (10 + n)) 2
    let bdy := [0x00#8, s.tx.service] ++ bytesLe s.tx.objType 2 ++ bytesLe s.tx.objId 4 ++ bytesLe s.tx.propId 2 ++
      s.memRead .txval 0 n
    (26 + n ≤ s.cfg.frameBufCap →
      ∃ t, exec .encode s = .next t ∧
        t.memRead .scratch 0 (26 + n) =
          [0xAA#8] ++ hdr ++ [(checksum hdr).a, (checksum hdr).b] ++ bdy ++ [(checksum bdy).a, (checksum bdy).b] ∧
        (∀ j, 26 + n ≤ j → t.byteAt .scratch j = s.byteAt .scratch j) ∧
        t = { s with scratch := t.scratch, txFrameLen := BitVec.ofNat 17 (26 + n), status := s.status.ended .ok }) ∧
    (26 + n > s.cfg.frameBufCap →
      exec .encode s = .next { s with txFrameLen := 0, status := s.status.ended .bufferTooSmall })

/-- 41_encoder.md R97: exactly the frames longer than FRAME_BUF_CAP are refused, with no byte of SCRATCH written; every
accepted N fits body_length and TXVAL. -/
def Obligations.EncodeRefusesExactlyTheFramesThatDoNotFit : Prop :=
  ∀ s t : State, s.status.busy = false → exec .encode s = .next t →
    (t.status.outcome = .bufferTooSmall ↔ 26 + s.tx.valueLen.toNat > s.cfg.frameBufCap) ∧
    (t.status.outcome = .bufferTooSmall → t.txFrameLen = 0 ∧ ∀ j, t.byteAt .scratch j = s.byteAt .scratch j) ∧
    (t.status.outcome ≠ .bufferTooSmall →
      10 + s.tx.valueLen.toNat ≤ 65535 ∧ s.tx.valueLen.toNat ≤ s.cfg.txvalBytes ∧
      t.txFrameLen.toNat = 26 + s.tx.valueLen.toNat ∧ t.txFrameLen.toNat ≤ s.cfg.frameBufCap)

/-- 30_encoding.md R75, R76 and 20_memory.md R50: the fields of the frame ENCODE builds, read little-endian at their
byte positions. -/
def Obligations.EncodedFieldsStandAtTheirPositions : Prop :=
  ∀ s t : State, s.status.busy = false → 26 + s.tx.valueLen.toNat ≤ s.cfg.frameBufCap → exec .encode s = .next t →
    let n := s.tx.valueLen.toNat
    let f := t.memRead .scratch 0 (26 + n)
    byteOf f 0 = 0xAA#8 ∧ byteOf f 1 = 0x00#8 ∧ le32 f 2 = 1#32 ∧ le32 f 6 = s.tx.dest ∧
    (le16 f 10).toNat = 10 + n ∧
    byteOf f 12 = (checksum (t.memRead .scratch 1 11)).a ∧ byteOf f 13 = (checksum (t.memRead .scratch 1 11)).b ∧
    byteOf f 14 = 0x00#8 ∧ byteOf f 15 = s.tx.service ∧ le16 f 16 = s.tx.objType ∧ le32 f 18 = s.tx.objId ∧
    le16 f 22 = s.tx.propId ∧ t.memRead .scratch 24 n = s.memRead .txval 0 n ∧
    byteOf f (24 + n) = (checksum (t.memRead .scratch 14 (10 + n))).a ∧
    byteOf f (25 + n) = (checksum (t.memRead .scratch 14 (10 + n))).b

/-! ## The decoder -/

/-- 42_decoder.md R104, the start step, and R105. -/
def Obligations.DecodeStartStep : Prop :=
  decodeWord 0x00000004#32 = some .decode ∧
  (∀ s : State, s.status.busy = true →
    exec .decode s = .next { s with status := { s.status with faultBusy := true } }) ∧
  ∀ s : State, s.status.busy = false →
    (s.rxCap.toNat ≤ s.cfg.rxvalBytes →
      exec .decode s = .next { s with
        rx := { hdrFlags := 0, src := 0, dest := 0, bodyLen := 0, bodyFlags := 0, service := 0, objType := 0, objId := 0,
                propId := 0, valueLen := 0, errCode := 0 }
        decCap := s.rxCap
        decPos := 0
        status := { busy := true, phase := .seekStart, outcome := .none, faultBusy := s.status.faultBusy } }) ∧
    (s.rxCap.toNat > s.cfg.rxvalBytes →
      exec .decode s = .next { s with status := s.status.ended .illegalCommand })

/-- 42_decoder.md R106: a receive step is enabled iff BUSY = 1 and consumes exactly one event; the phases are those of a
state that a run reaches. That a turn with no event waiting leaves the state as it is, is the model's form of the wait in
`rx_next()` (entry 4, DEDUCED). -/
def Obligations.ReceiveStepConsumesExactlyOneEvent : Prop :=
  ∀ (s : State) (rest : List Action), s.atTurn rest →
    (s.status.busy = false → step s = .next { s with agenda := rest }) ∧
    (s.rxAnswers = [] → step s = .next { s with agenda := rest }) ∧
    (∀ ev evs, s.status.busy = true → s.phaseOk → s.rxAnswers = ev :: evs →
      let u := { s with agenda := rest, rxAnswers := evs }
      (s.status.phase = .seekStart → step s = .next (seek ev u)) ∧
      (s.status.phase = .readHeader → step s = .next (header ev u)) ∧
      (s.status.phase = .readBody → step s = .next (body ev u)) ∧
      ∃ t, step s = .next t ∧ t.rxAnswers = evs ∧ t.agenda = rest)

/-- 42_decoder.md R107. -/
def Obligations.SeekStartDiscardsUntilTheMarker : Prop :=
  ∀ (s : State) (ev : RxEvent) (evs : List RxEvent) (rest : List Action),
    s.receives ev evs rest → s.status.phase = .seekStart →
    (ev = .byte 0xAA#8 →
      ∃ t, step s = .next t ∧ t.byteAt .scratch 0 = 0xAA#8 ∧
        (∀ j, j ≠ 0 → t.byteAt .scratch j = s.byteAt .scratch j) ∧
        t = { s with agenda := rest, rxAnswers := evs, scratch := t.scratch, decPos := 1,
                     status := { s.status with phase := .readHeader } }) ∧
    (∀ b, ev = .byte b → b ≠ 0xAA#8 → step s = .next { s with agenda := rest, rxAnswers := evs }) ∧
    (ev = .timeout →
      step s = .next { s with agenda := rest, rxAnswers := evs, status := s.status.ended .portTimeout }) ∧
    (ev = .ioFault →
      step s = .next { s with agenda := rest, rxAnswers := evs, status := s.status.ended .portReadFailed })

/-- 42_decoder.md R108 before the 13th header byte, and R109. -/
def Obligations.ReadHeaderStoresOrFailsShort : Prop :=
  ∀ (s : State) (ev : RxEvent) (evs : List RxEvent) (rest : List Action),
    s.receives ev evs rest → s.status.phase = .readHeader → 1 ≤ s.decPos.toNat → s.decPos.toNat ≤ 13 →
    (∀ b, ev = .byte b → s.decPos.toNat < 13 →
      ∃ t, step s = .next t ∧ t.byteAt .scratch s.decPos.toNat = b ∧
        (∀ j, j ≠ s.decPos.toNat → t.byteAt .scratch j = s.byteAt .scratch j) ∧
        t = { s with agenda := rest, rxAnswers := evs, scratch := t.scratch, decPos := s.decPos + 1 }) ∧
    (ev = .timeout ∨ ev = .ioFault →
      step s = .next { s with agenda := rest, rxAnswers := evs, status := s.status.ended .portReadFailed })

/-- 42_decoder.md R110, R111, R112: the step that stores the 13th header byte. -/
def Obligations.LastHeaderByteValidatesTheHeader : Prop :=
  ∀ (s : State) (b : Byte) (evs : List RxEvent) (rest : List Action),
    s.receives (.byte b) evs rest → s.status.phase = .readHeader → s.decPos.toNat = 13 →
    let hdr := s.memRead .scratch 1 11
    ∃ t, step s = .next t ∧ t.byteAt .scratch 13 = b ∧
      (∀ j, j ≠ 13 → t.byteAt .scratch j = s.byteAt .scratch j) ∧
      t = { s with agenda := rest, rxAnswers := evs, scratch := t.scratch, decPos := 14, rx := t.rx, status := t.status } ∧
      (checksum hdr ≠ { a := s.byteAt .scratch 12, b := b } →
        t.rx = s.rx ∧ t.status = s.status.ended .headerChecksumMismatch) ∧
      (checksum hdr = { a := s.byteAt .scratch 12, b := b } →
        t.rx = { s.rx with hdrFlags := s.byteAt .scratch 1, src := le32 hdr 1, dest := le32 hdr 5, bodyLen := le16 hdr 9 } ∧
        t.status =
          if 16 + (le16 hdr 9).toNat > s.cfg.frameBufCap then s.status.ended .bufferTooSmall
          else { s.status with phase := .readBody })

/-- 42_decoder.md R113: READ_BODY and VALIDATE_BODY. -/
def Obligations.ReadBodyStoresAndValidates : Prop :=
  ∀ (s : State) (ev : RxEvent) (evs : List RxEvent) (rest : List Action),
    s.receives ev evs rest → s.status.phase = .readBody →
    14 ≤ s.decPos.toNat → s.decPos.toNat < 16 + s.rx.bodyLen.toNat →
    16 + s.rx.bodyLen.toNat ≤ s.cfg.frameBufCap →
    (ev = .timeout ∨ ev = .ioFault →
      step s = .next { s with agenda := rest, rxAnswers := evs, status := s.status.ended .portReadFailed }) ∧
    (∀ b, ev = .byte b →
      ∃ u : State, u.byteAt .scratch s.decPos.toNat = b ∧
        (∀ j, j ≠ s.decPos.toNat → u.byteAt .scratch j = s.byteAt .scratch j) ∧
        u = { s with agenda := rest, rxAnswers := evs, scratch := u.scratch, decPos := s.decPos + 1 } ∧
        (s.decPos.toNat + 1 ≠ 16 + s.rx.bodyLen.toNat → step s = .next u) ∧
        (s.decPos.toNat + 1 = 16 + s.rx.bodyLen.toNat →
          (checksum s.receivedBody ≠ { a := s.byteAt .scratch (14 + s.rx.bodyLen.toNat), b := b } →
            step s = .next { u with status := s.status.ended .bodyChecksumMismatch }) ∧
          (checksum s.receivedBody = { a := s.byteAt .scratch (14 + s.rx.bodyLen.toNat), b := b } →
            step s = .next (classify s.receivedBody u))))

/-- 42_decoder.md R114-R117: the outcome of every validated body that is not a property response; SCRATCH changes in the
byte stored alone. -/
def Obligations.ClassificationOfOtherBodies : Prop :=
  ∀ (s : State) (b : Byte) (evs : List RxEvent) (rest : List Action),
    s.receivesLast b evs rest →
    checksum s.receivedBody = { a := s.byteAt .scratch (14 + s.rx.bodyLen.toNat), b := b } →
    ¬ propertyResponse s.receivedBody →
    let y := s.receivedBody
    let len := s.rx.bodyLen.toNat
    let rx := { s.rx with bodyFlags := if 1 ≤ len then byteOf y 0 else s.rx.bodyFlags
                          service := if 2 ≤ len then byteOf y 1 else s.rx.service }
    ∃ t, step s = .next t ∧
      t = { s with agenda := rest, rxAnswers := evs, scratch := t.scratch, decPos := s.decPos + 1, rx := t.rx,
                   status := t.status } ∧
      t.byteAt .scratch s.decPos.toNat = b ∧
      (∀ j, j ≠ s.decPos.toNat → t.byteAt .scratch j = s.byteAt .scratch j) ∧
      (len < 2 → t.status = s.status.ended .invalidFrame ∧ t.rx = rx) ∧
      (2 ≤ len → (byteOf y 0).getLsbD 0 = true → len = 4 →
        t.status = s.status.ended .applicationError ∧ t.rx = { rx with errCode := le16 y 2 }) ∧
      (2 ≤ len → (byteOf y 0).getLsbD 0 = true → len ≠ 4 → t.status = s.status.ended .invalidFrame ∧ t.rx = rx) ∧
      (2 ≤ len → (byteOf y 0).getLsbD 0 = false → (byteOf y 0).getLsbD 1 = false →
        t.status = s.status.ended .foreignRequest ∧ t.rx = rx) ∧
      (2 ≤ len → (byteOf y 0).getLsbD 0 = false → (byteOf y 0).getLsbD 1 = true →
        t.status = s.status.ended .invalidFrame ∧ t.rx = rx)

/-- 42_decoder.md R118 (and the object registers of R114): the delivery of a property response's value; SCRATCH changes in
the byte stored alone. -/
def Obligations.DeliveryOfAPropertyResponse : Prop :=
  ∀ (s : State) (b : Byte) (evs : List RxEvent) (rest : List Action),
    s.receivesLast b evs rest →
    checksum s.receivedBody = { a := s.byteAt .scratch (14 + s.rx.bodyLen.toNat), b := b } →
    propertyResponse s.receivedBody → s.decCap.toNat ≤ s.cfg.rxvalBytes →
    let y := s.receivedBody
    let n := s.rx.bodyLen.toNat - 10
    let rx := { s.rx with bodyFlags := byteOf y 0, service := byteOf y 1, objType := le16 y 2, objId := le32 y 4,
                          propId := le16 y 8 }
    ∃ t, step s = .next t ∧
      t = { s with agenda := rest, rxAnswers := evs, scratch := t.scratch, rxval := t.rxval, decPos := s.decPos + 1,
                   rx := t.rx, status := t.status } ∧
      t.byteAt .scratch s.decPos.toNat = b ∧
      (∀ j, j ≠ s.decPos.toNat → t.byteAt .scratch j = s.byteAt .scratch j) ∧
      (n > s.decCap.toNat →
        t.status = s.status.ended .bufferTooSmall ∧ t.rx = rx ∧ ∀ j, t.byteAt .rxval j = s.byteAt .rxval j) ∧
      (n ≤ s.decCap.toNat →
        t.status = s.status.ended .ok ∧ t.rx = { rx with valueLen := BitVec.ofNat 16 n } ∧
        t.memRead .rxval 0 n = y.drop 10 ∧
        (n < s.decCap.toNat → t.byteAt .rxval n = 0x00#8) ∧
        (∀ j, n < j ∨ n = s.decCap.toNat ∧ n ≤ j → t.byteAt .rxval j = s.byteAt .rxval j))

/-- 42_decoder.md R119: bytes other than 0xAA before a stream do not change what the DECODE comes to. -/
def Obligations.ResynchronisationSkipsGarbage : Prop :=
  ∀ (s : State) (garbage : List Byte) (stream : List RxEvent) (n : Nat),
    s.agenda = [] → s.status.busy = true → s.status.phase = .seekStart → 0xAA#8 ∉ garbage →
    Host.Core.run Sys2Proof.core (garbage.length + n) { s with rxAnswers := garbage.map .byte ++ stream } =
      Host.Core.run Sys2Proof.core n { s with rxAnswers := stream }

/-- 42_decoder.md R122: a Timeout or IoFault event in the stream, or enough bytes in READ_BODY, brings a DECODE to its
finish. -/
def Obligations.DecodeFinishesWhenTheStreamBringsItTo : Prop :=
  ∀ (s : State) (evs : List RxEvent), s.Inv → s.agenda = [] → s.status.busy = true →
    (∀ more, s.rxAnswers = evs ++ .timeout :: more ∨ s.rxAnswers = evs ++ .ioFault :: more →
      ∃ n t, n ≤ evs.length + 1 ∧ Host.Core.run Sys2Proof.core n s = .next t ∧ t.status.busy = false) ∧
    (s.status.phase = .readBody → s.rxAnswers = evs → 16 + s.rx.bodyLen.toNat ≤ s.decPos.toNat + evs.length →
      ∃ n t, n ≤ 16 + s.rx.bodyLen.toNat - s.decPos.toNat ∧ Host.Core.run Sys2Proof.core n s = .next t ∧
        t.status.busy = false)

/-- 42_decoder.md R123: one changed byte in the header, or in the body, is a checksum mismatch. -/
def Obligations.OneCorruptedByteIsDetected : Prop :=
  ∀ (s : State) (b : Byte) (evs : List RxEvent) (rest : List Action) (pre post : List Byte) (x y : Byte), x ≠ y →
    (s.receives (.byte b) evs rest → s.status.phase = .readHeader → s.decPos.toNat = 13 →
      s.memRead .scratch 1 11 = pre ++ y :: post →
      checksum (pre ++ x :: post) = { a := s.byteAt .scratch 12, b := b } →
      ∃ t, step s = .next t ∧ t.status = s.status.ended .headerChecksumMismatch) ∧
    (s.receivesLast b evs rest → s.receivedBody = pre ++ y :: post →
      checksum (pre ++ x :: post) = { a := s.byteAt .scratch (14 + s.rx.bodyLen.toNat), b := b } →
      ∃ t, step s = .next t ∧ t.status = s.status.ended .bodyChecksumMismatch)

/-- 41_encoder.md R103: the frame ENCODE builds, sent back as a response, decodes to the descriptor's fields; the raw frame
is classified as a foreign request. -/
def Obligations.EncodedFrameRoundTrip : Prop :=
  ∀ s : State, s.status.busy = false → s.agenda = [] →
    26 + s.tx.valueLen.toNat ≤ s.cfg.frameBufCap →
    (s.tx.service = 1#8 ∨ s.tx.service = 2#8) →
    s.tx.valueLen.toNat ≤ s.rxCap.toNat → s.rxCap.toNat ≤ s.cfg.rxvalBytes →
    ∃ e d t f, exec .encode s = .next e ∧ e.status.outcome = .ok ∧ exec .decode e = .next d ∧
      Host.Core.run Sys2Proof.core e.txFrameLen.toNat
        { d with rxAnswers := (asResponse (e.memRead .scratch 0 e.txFrameLen.toNat)).map .byte } = .next t ∧
      t.status = s.status.ended .ok ∧ t.rxAnswers = [] ∧
      t.rx.src = 1#32 ∧ t.rx.dest = s.tx.dest ∧ t.rx.service = s.tx.service ∧ t.rx.objType = s.tx.objType ∧
      t.rx.objId = s.tx.objId ∧ t.rx.propId = s.tx.propId ∧ t.rx.valueLen = s.tx.valueLen ∧
      t.memRead .rxval 0 s.tx.valueLen.toNat = s.memRead .txval 0 s.tx.valueLen.toNat ∧
      Host.Core.run Sys2Proof.core e.txFrameLen.toNat
        { d with rxAnswers := (e.memRead .scratch 0 e.txFrameLen.toNat).map .byte } = .next f ∧
      f.status = s.status.ended .foreignRequest

/-- 70_reset_and_hazards.md R167: RX_CAP is latched by the start step, and no host write other than to CMD affects a
running DECODE. -/
def Obligations.HostWritesDoNotAffectARunningDecode : Prop :=
  (∀ s t : State, s.status.busy = false → exec .decode s = .next t → t.status.busy = true → t.decCap = s.rxCap) ∧
  (∀ (s t : State) (offset : Nat) (v : Word), receiveTurn s = .next t →
    receiveTurn (s.busWrite offset v) = .next (t.busWrite offset v)) ∧
  (∀ (s : State) (offset : Nat) (v : Word), (s.busWrite offset v).decCap = s.decCap)

/-! ## The property codec -/

/-- 43_codec.md R127, R130. -/
def Obligations.AsIntConvertsTheDeliveredValue : Prop :=
  decodeWord 0x00000005#32 = some .asInt ∧
  (∀ s : State, s.status.busy = true →
    exec .asInt s = .next { s with status := { s.status with faultBusy := true } }) ∧
  ∀ s : State, s.status.busy = false →
    exec .asInt s = .next { s with
      codecInt :=
        if 4 ≤ s.rx.valueLen.toNat then
          s.byteAt .rxval 3 ++ s.byteAt .rxval 2 ++ s.byteAt .rxval 1 ++ s.byteAt .rxval 0
        else if 2 ≤ s.rx.valueLen.toNat then 0#16 ++ s.byteAt .rxval 1 ++ s.byteAt .rxval 0
        else 0#32
      status := s.status.ended .ok }

/-- 43_codec.md R128, R131. -/
def Obligations.AsFloatPassesTheDeliveredPattern : Prop :=
  decodeWord 0x00000006#32 = some .asFloat ∧
  (∀ s : State, s.status.busy = true →
    exec .asFloat s = .next { s with status := { s.status with faultBusy := true } }) ∧
  ∀ s : State, s.status.busy = false →
    exec .asFloat s = .next { s with
      codecFloat :=
        if 4 ≤ s.rx.valueLen.toNat then
          s.byteAt .rxval 3 ++ s.byteAt .rxval 2 ++ s.byteAt .rxval 1 ++ s.byteAt .rxval 0
        else 0x00000000#32
      status := s.status.ended .ok }

/-- 43_codec.md R130, the corner case n = 0: RX_VALUE_LEN is 0 from the start of a DECODE until it finishes OK. A DECODE
refused at its start keeps RX_VALUE_LEN, as 42_decoder.md R105 says (entry 20, DESIGN CHOICE: R130 reads otherwise). -/
def Obligations.OnlyAnOkDecodeLeavesAValueLength : Prop :=
  (∀ s t : State, step s = .next t → s.status.busy = true → s.rx.valueLen = 0 →
    t.rx.valueLen = 0 ∨ t.status.busy = false ∧ t.status.outcome = .ok) ∧
  (∀ s t : State, s.status.busy = false → exec .decode s = .next t →
    (t.status.busy = true → t.rx.valueLen = 0) ∧
    (t.status.busy = false → t.rx.valueLen = s.rx.valueLen ∧ t.status.outcome = .illegalCommand))

/-- 10_state.md R30: only AS_INT, AS_FLOAT and reset write CODEC_INT and CODEC_FLOAT. -/
def Obligations.OnlyCodecCommandsChangeCodecRegisters : Prop :=
  ∀ s t : State, step s = .next t → (¬ ∃ rest, s.agenda = .reset :: rest) →
    (t.codecInt ≠ s.codecInt →
      t.codecInt = asInteger (s.memRead .rxval 0 s.rx.valueLen.toNat) ∧
      ∃ w rest, s.atCmdWrite w rest ∧ decodeWord w = some .asInt) ∧
    (t.codecFloat ≠ s.codecFloat →
      t.codecFloat = asFloat (s.memRead .rxval 0 s.rx.valueLen.toNat) ∧
      ∃ w rest, s.atCmdWrite w rest ∧ decodeWord w = some .asFloat)

/-- 43_codec.md R126: the property layout gives every field back. -/
def Obligations.PropertyBodyRoundTrip : Prop :=
  ∀ (flags service : Byte) (objType : Half) (objId : Word) (propId : Half) (value : List Byte),
    let y := propertyBody flags service objType objId propId value
    y.length = 10 + value.length ∧ byteOf y 0 = flags ∧ byteOf y 1 = service ∧ le16 y 2 = objType ∧ le32 y 4 = objId ∧
      le16 y 8 = propId ∧ y.drop 10 = value

/-! ## The host bus -/

/-- 10_state.md R22: every register reads at its offset, zero above the width used; CMD reads 0 (R23, R24). -/
def Obligations.RegistersReadAtTheirOffsets : Prop :=
  ∀ s : State,
    (s.busRead 0x000).toNat = 0 ∧
    (s.busRead 0x008).toNat = s.chk.a.toNat + 256 * s.chk.b.toNat ∧
    (s.busRead 0x010).toNat = s.tx.dest.toNat ∧ (s.busRead 0x014).toNat = s.tx.service.toNat ∧
    (s.busRead 0x018).toNat = s.tx.objType.toNat ∧ (s.busRead 0x01C).toNat = s.tx.objId.toNat ∧
    (s.busRead 0x020).toNat = s.tx.propId.toNat ∧ (s.busRead 0x024).toNat = s.tx.valueLen.toNat ∧
    (s.busRead 0x028).toNat = s.txFrameLen.toNat ∧ (s.busRead 0x02C).toNat = s.rxCap.toNat ∧
    (s.busRead 0x040).toNat = s.rx.hdrFlags.toNat ∧ (s.busRead 0x044).toNat = s.rx.src.toNat ∧
    (s.busRead 0x048).toNat = s.rx.dest.toNat ∧ (s.busRead 0x04C).toNat = s.rx.bodyLen.toNat ∧
    (s.busRead 0x050).toNat = s.rx.bodyFlags.toNat ∧ (s.busRead 0x054).toNat = s.rx.service.toNat ∧
    (s.busRead 0x058).toNat = s.rx.objType.toNat ∧ (s.busRead 0x05C).toNat = s.rx.objId.toNat ∧
    (s.busRead 0x060).toNat = s.rx.propId.toNat ∧ (s.busRead 0x064).toNat = s.rx.valueLen.toNat ∧
    (s.busRead 0x068).toNat = s.rx.errCode.toNat ∧
    (s.busRead 0x070).toNat = s.codecInt.toNat ∧ (s.busRead 0x074).toNat = s.codecFloat.toNat

/-- 10_state.md R25, with the codes of R26 and of 30_encoding.md R86: the fields of STATUS and its reserved bits. -/
def Obligations.StatusWordLayout : Prop :=
  (∀ s : State, (s.busRead 0x004).toNat =
    (if s.status.busy then 1 else 0) + 2 ^ 4 * s.status.phase.code.toNat + 2 ^ 8 * s.status.outcome.code.toNat +
      (if s.status.faultBusy then 2 ^ 16 else 0)) ∧
  Phase.code .idle = 0 ∧ Phase.code .seekStart = 1 ∧ Phase.code .readHeader = 2 ∧ Phase.code .validateHeader = 3 ∧
  Phase.code .readBody = 4 ∧ Phase.code .validateBody = 5 ∧
  OutcomeCode.code .none = 0x00 ∧ OutcomeCode.code .ok = 0x01 ∧ OutcomeCode.code .applicationError = 0x02 ∧
  OutcomeCode.code .foreignRequest = 0x03 ∧ OutcomeCode.code .portTimeout = 0x04 ∧
  OutcomeCode.code .portReadFailed = 0x05 ∧ OutcomeCode.code .headerChecksumMismatch = 0x06 ∧
  OutcomeCode.code .bodyChecksumMismatch = 0x07 ∧ OutcomeCode.code .invalidFrame = 0x08 ∧
  OutcomeCode.code .bufferTooSmall = 0x09 ∧ OutcomeCode.code .illegalCommand = 0x0A ∧
  OutcomeCode.code .portWriteFailed = 0x0B

/-- 10_state.md R23, R24: a host write stores into an RW register truncated to its width, and an RO register ignores it. -/
def Obligations.RegisterWritesTruncateOrAreIgnored : Prop :=
  (∀ (s : State) (offset : BitVec 20) (v : Word) (rest : List Action),
    s.agenda = .host (.write offset 4 v) :: rest → offset.toNat % 4 = 0 → offset ≠ 0x00000#20 →
    step s = .next ({ s with agenda := rest }.busWrite offset.toNat v)) ∧
  (∀ (s : State) (v : Word),
    s.busWrite 0x010 v = { s with tx := { s.tx with dest := v } } ∧
    s.busWrite 0x014 v = { s with tx := { s.tx with service := BitVec.ofNat 8 (v.toNat % 2 ^ 8) } } ∧
    s.busWrite 0x018 v = { s with tx := { s.tx with objType := BitVec.ofNat 16 (v.toNat % 2 ^ 16) } } ∧
    s.busWrite 0x01C v = { s with tx := { s.tx with objId := v } } ∧
    s.busWrite 0x020 v = { s with tx := { s.tx with propId := BitVec.ofNat 16 (v.toNat % 2 ^ 16) } } ∧
    s.busWrite 0x024 v = { s with tx := { s.tx with valueLen := BitVec.ofNat 16 (v.toNat % 2 ^ 16) } } ∧
    s.busWrite 0x02C v = { s with rxCap := BitVec.ofNat 16 (v.toNat % 2 ^ 16) }) ∧
  (∀ (s : State) (v : Word) (offset : Nat),
    offset ∈ [0x004, 0x008, 0x028, 0x040, 0x044, 0x048, 0x04C, 0x050, 0x054, 0x058, 0x05C, 0x060, 0x064, 0x068, 0x070,
              0x074] →
    s.busWrite offset v = s)

/-- 20_memory.md R53, R55: the windows, little-endian, byte by byte at the end of a memory. -/
def Obligations.WindowsReadAndWriteLittleEndian : Prop :=
  ∀ (s : State) (v : Word) (k : Nat), k < 0x20000 → k % 4 = 0 →
    s.busRead (0x20000 + k) =
      s.byteAt .scratch (k + 3) ++ s.byteAt .scratch (k + 2) ++ s.byteAt .scratch (k + 1) ++ s.byteAt .scratch k ∧
    s.busRead (0x40000 + k) =
      s.byteAt .txval (k + 3) ++ s.byteAt .txval (k + 2) ++ s.byteAt .txval (k + 1) ++ s.byteAt .txval k ∧
    s.busRead (0x60000 + k) =
      s.byteAt .rxval (k + 3) ++ s.byteAt .rxval (k + 2) ++ s.byteAt .rxval (k + 1) ++ s.byteAt .rxval k ∧
    (∀ m i, s.memSize m ≤ i → s.byteAt m i = 0x00#8) ∧
    (∀ j, (s.busWrite (0x40000 + k) v).byteAt .txval j =
      if k ≤ j ∧ j < k + 4 ∧ j < s.cfg.txvalBytes then v.extractLsb' (8 * (j - k)) 8 else s.byteAt .txval j) ∧
    s.busWrite (0x40000 + k) v = { s with txval := (s.busWrite (0x40000 + k) v).txval } ∧
    s.busWrite (0x20000 + k) v = s ∧ s.busWrite (0x60000 + k) v = s

/-- 20_memory.md R54: an unmapped offset reads 0 and ignores writes. -/
def Obligations.UnmappedOffsetsReadZeroAndIgnoreWrites : Prop :=
  ∀ (s : State) (v : Word) (offset : Nat),
    offset < 0x20000 ∧
      offset ∉ [0x000, 0x004, 0x008, 0x010, 0x014, 0x018, 0x01C, 0x020, 0x024, 0x028, 0x02C, 0x040, 0x044, 0x048, 0x04C,
                0x050, 0x054, 0x058, 0x05C, 0x060, 0x064, 0x068, 0x070, 0x074] ∨ 0x80000 ≤ offset →
    s.busRead offset = 0#32 ∧ s.busWrite offset v = s

/-- 20_memory.md R56: only aligned word accesses have a meaning, the others are refused; every aligned word access is
answered. The two names, and that the size is looked at first, are the model's choice (entry 9, DESIGN CHOICE). -/
def Obligations.SubWordAndMisalignedAccessesAreRefused : Prop :=
  ∀ (s : State) (a : Access) (rest : List Action), s.agenda = .host a :: rest →
    (a.bytes ≠ 4 → step s = .refused .notWordAccess) ∧
    (a.bytes = 4 → a.offset.toNat % 4 ≠ 0 → step s = .refused .misalignedAccess) ∧
    (a.bytes = 4 → a.offset.toNat % 4 = 0 → ∃ t, step s = .next t)

/-- 20_memory.md R60: no host read has a side effect, every offset reads the same again, and a write other than to CMD does
nothing beyond storing its value: into the RW register of its offset, truncated to the register's width, or into the bytes
of TXVAL at its offset. That a read leaves its word in a field of the state is the model's choice (entry 6, DESIGN
CHOICE). -/
def Obligations.HostReadsHaveNoSideEffect : Prop :=
  (∀ (s : State) (offset : BitVec 20) (rest : List Action),
    s.agenda = .host (.read offset 4) :: rest → offset.toNat % 4 = 0 →
    step s = .next { s with agenda := rest, busData := s.busRead offset.toNat } ∧
    ∀ o, State.busRead { s with agenda := rest, busData := s.busRead offset.toNat } o = s.busRead o) ∧
  (∀ (s : State) (offset : BitVec 20) (v : Word) (rest : List Action),
    s.agenda = .host (.write offset 4 v) :: rest → offset.toNat % 4 = 0 → offset ≠ 0x00000#20 →
    ∃ t, step s = .next t ∧ t = { s with agenda := rest, tx := t.tx, rxCap := t.rxCap, txval := t.txval } ∧
      t.tx.dest = (if offset = 0x00010#20 then v else s.tx.dest) ∧
      t.tx.service = (if offset = 0x00014#20 then v.extractLsb' 0 8 else s.tx.service) ∧
      t.tx.objType = (if offset = 0x00018#20 then v.extractLsb' 0 16 else s.tx.objType) ∧
      t.tx.objId = (if offset = 0x0001C#20 then v else s.tx.objId) ∧
      t.tx.propId = (if offset = 0x00020#20 then v.extractLsb' 0 16 else s.tx.propId) ∧
      t.tx.valueLen = (if offset = 0x00024#20 then v.extractLsb' 0 16 else s.tx.valueLen) ∧
      t.rxCap = (if offset = 0x0002C#20 then v.extractLsb' 0 16 else s.rxCap) ∧
      (∀ j, t.byteAt .txval j =
        if offset.toNat ≤ 0x40000 + j ∧ 0x40000 + j < offset.toNat + 4 ∧ j < s.cfg.txvalBytes then
          v.extractLsb' (8 * (0x40000 + j - offset.toNat)) 8
        else s.byteAt .txval j))

/-! ## Whole-machine rules -/

/-- 10_state.md R27: FAULT_BUSY is set only by a CMD write while BUSY = 1 (60_exceptions.md R146), and only reset clears it. -/
def Obligations.OnlyResetClearsFaultBusy : Prop :=
  ∀ s t : State, step s = .next t →
    (t.faulted = t.status.faultBusy) ∧
    (s.status.faultBusy = true → (¬ ∃ rest, s.agenda = .reset :: rest) → t.status.faultBusy = true) ∧
    (∀ rest, s.agenda = .reset :: rest → t.status.faultBusy = false) ∧
    (s.status.faultBusy = false → t.status.faultBusy = true →
      s.status.busy = true ∧ ∃ w rest, s.atCmdWrite w rest)

/-- 10_state.md R36: only a host write into its window (and reset) changes TXVAL. -/
def Obligations.OnlyTheHostWritesTxval : Prop :=
  ∀ (s t : State) (j : Nat), step s = .next t → t.byteAt .txval j ≠ s.byteAt .txval j →
    (∃ rest, s.agenda = .reset :: rest) ∨
    (∃ offset v rest, s.agenda = .host (.write offset 4 v) :: rest ∧
      0x40000 + j < offset.toNat + 4 ∧ offset.toNat ≤ 0x40000 + j)

/-- 10_state.md R37: only the step that classifies an Ok response (and reset) changes RXVAL. -/
def Obligations.OnlyAnOkDeliveryWritesRxval : Prop :=
  ∀ (s t : State) (j : Nat), step s = .next t → t.byteAt .rxval j ≠ s.byteAt .rxval j →
    (∃ rest, s.agenda = .reset :: rest) ∨
    (∃ b evs rest, s.receives (.byte b) evs rest ∧ s.status.phase = .readBody ∧ t.status.busy = false ∧
      t.status.outcome = .ok ∧ j ≤ t.rx.valueLen.toNat)

/-- 10_state.md R35: only an ENCODE that is not busy, the byte a receive step stores, and reset change SCRATCH. -/
def Obligations.OnlyEncodeAndReceptionWriteScratch : Prop :=
  ∀ (s t : State) (j : Nat), step s = .next t → t.byteAt .scratch j ≠ s.byteAt .scratch j →
    (∃ rest, s.agenda = .reset :: rest) ∨
    (∃ w rest, s.atCmdWrite w rest ∧ decodeWord w = some .encode ∧ s.status.busy = false ∧ j < t.txFrameLen.toNat) ∨
    (∃ b evs rest, s.receives (.byte b) evs rest ∧
      (s.status.phase = .seekStart ∧ j = 0 ∨ s.status.phase ≠ .seekStart ∧ j = s.decPos.toNat) ∧ t.byteAt .scratch j = b)

/-! ## Transports, reset -/

/-- 60_exceptions.md R144: what arrives is kept in arrival order; while no DECODE runs, the step that starts one included,
the block takes nothing; and a running DECODE is answered with the oldest. -/
def Obligations.ArrivingBytesAreKeptInOrder : Prop :=
  (∀ (s : State) (e : RxEvent) (rest : List Action), s.agenda = .arrive e :: rest →
    step s = .next { s with agenda := rest, rxAnswers := s.rxAnswers ++ [e] }) ∧
  (∀ s t : State, step s = .next t → s.status.busy = false → (∀ e rest, s.agenda ≠ .arrive e :: rest) →
    t.rxAnswers = s.rxAnswers) ∧
  (∀ (s : State) (ev : RxEvent) (evs : List RxEvent) (rest : List Action),
    s.receives ev evs rest → step s = receiveStep ev { s with agenda := rest, rxAnswers := evs })

/-- 60_exceptions.md R145: the transmit transport accepts the first bytes and reports how many; nothing but the host's
write makes it accept any. The fields it keeps them in, and a count beyond the length read as the length, are the model's
choice (entry 5, DESIGN CHOICE), and so is that a reset keeps them (entry 10, DEDUCED). -/
def Obligations.TransmitAcceptsTheFirstBytes : Prop :=
  (∀ (s : State) (bytes : List Byte) (k : Nat) (rest : List Action), s.agenda = .transmit bytes k :: rest →
    step s = .next { s with agenda := rest, sent := s.sent ++ bytes.take k, accepted := min k bytes.length }) ∧
  (∀ s t : State, step s = .next t → (∀ bytes k rest, s.agenda ≠ .transmit bytes k :: rest) →
    t.sent = s.sent ∧ t.accepted = s.accepted)

/-- 70_reset_and_hazards.md R159: every register's value after reset, at its offset; dec_pos and dec_cap. -/
def Obligations.ResetRegisterValues : Prop :=
  State.reset.busRead 0x008 = 0x000000FF#32 ∧
  (∀ offset ∈ [0x000, 0x004, 0x010, 0x014, 0x018, 0x01C, 0x020, 0x024, 0x028, 0x02C, 0x040, 0x044, 0x048, 0x04C, 0x050,
               0x054, 0x058, 0x05C, 0x060, 0x064, 0x068, 0x070, 0x074], State.reset.busRead offset = 0#32) ∧
  State.reset.decPos = 0 ∧ State.reset.decCap = 0 ∧
  State.reset.status = { busy := false, phase := .idle, outcome := .none, faultBusy := false } ∧
  State.reset.chk = { a := 0xFF, b := 0x00 }

/-- 70_reset_and_hazards.md R158, R160-R162: reset at any point, during a DECODE too. The transmit transport and the bus
keeping what they hold is the model's reading (entry 10), as is the form of the free draw (entry 2). -/
def Obligations.ResetAtAnyPoint : Prop :=
  ∀ (s : State) (rest : List Action), s.agenda = .reset :: rest →
    ∃ t, step s = .next t ∧ (∀ r : Reg, t.readReg r = State.reset.readReg r) ∧
      t.status = State.reset.status ∧ t.decPos = 0 ∧ t.decCap = 0 ∧ t.cfg = s.cfg ∧
      t.agenda = rest ∧ t.rxAnswers = s.rxAnswers ∧ t.sent = s.sent ∧ t.accepted = s.accepted ∧ t.busData = s.busData ∧
      t.draw.number = s.draw.number + 1 ∧
      (∀ m i, i < t.memSize m → t.byteAt m i = Config.freeByte t.draw.number m i)

/-! ## The invariant -/

/-- The invariant holds after reset, whatever was built. -/
def Obligations.ResetMeetsTheInvariant : Prop := State.reset.Inv

/-- Every step keeps the invariant, whoever acts (10_state.md R25, R26, R38; 30_encoding.md R86; 42_decoder.md R105-R118). -/
def Obligations.EveryStepKeepsTheInvariant : Prop :=
  ∀ s t : State, s.Inv → step s = .next t → t.Inv

/-- In a state of the invariant the block never stops: the one fault of the model is out of reach (93 I18). -/
def Obligations.NoFaultFromTheInvariant : Prop :=
  ∀ (s : State) (f : Fault), s.Inv → step s ≠ .fault f

/-! ## The host procedure -/

/-- 60_exceptions.md R137: the result a DECODE's registers present. -/
def Obligations.DecodeResultFromTheRegisters : Prop :=
  ∀ s : State,
    (s.status.outcome = .ok → s.decodeResult =
      .ok s.rx.src s.rx.service s.rx.objType s.rx.objId s.rx.propId (s.memRead .rxval 0 s.rx.valueLen.toNat)) ∧
    (s.status.outcome = .applicationError → s.decodeResult = .applicationError s.rx.errCode) ∧
    (s.status.outcome = .foreignRequest → s.decodeResult = .foreignRequest) ∧
    (s.status.outcome ≠ .ok → s.status.outcome ≠ .applicationError → s.status.outcome ≠ .foreignRequest →
      s.decodeResult = .protocolError s.status.outcome)

/-- 60_exceptions.md R155, R156 (90_conflicts.md C1, C4): at most four DECODEs; four FOREIGN_REQUESTs are PortReadFailed, and
ForeignRequest is never the result; a DECODE that ends with another outcome is the last, and its result is the
transaction's; one that ends with FOREIGN_REQUEST is followed by the rest of the attempts; and once the whole frame is
accepted, four attempts are what `perform` does. That no other agent acts during the procedure is the model's form of it
(entry 14, DEDUCED), and so are the fields that hold what was sent (entry 5, DESIGN CHOICE). -/
def Obligations.PerformRetriesForeignRequestsThreeTimes : Prop :=
  ∀ (tx : Transaction) (k : Nat) (s : State),
    (perform tx k s).decodes ≤ 4 ∧ (perform tx k s).result ≠ some .foreignRequest ∧
    ((perform tx k s).decodes ≠ 0 → (perform tx k s).result ≠ none →
      (perform tx k s).state.status.outcome = .foreignRequest →
      (perform tx k s).decodes = 4 ∧ (perform tx k s).result = some (.protocolError .portReadFailed)) ∧
    (∀ n, (hostDecode s).status.busy = false → (hostDecode s).status.outcome ≠ .foreignRequest →
      decodeAttempts n s = { result := some (hostDecode s).decodeResult, decodes := 1, state := hostDecode s }) ∧
    (∀ n, (hostDecode s).status.busy = false → (hostDecode s).status.outcome = .foreignRequest →
      decodeAttempts (n + 1) s =
        { result  := (decodeAttempts n (hostDecode s)).result
          decodes := (decodeAttempts n (hostDecode s)).decodes + 1
          state   := (decodeAttempts n (hostDecode s)).state }) ∧
    (∀ e, e = hostCommand .encode (writeTransaction tx s) → e.status.outcome ≠ .bufferTooSmall →
      e.txFrameLen.toNat ≤ k →
      perform tx k s = decodeAttempts 3
        { e with sent := e.sent ++ e.memRead .scratch 0 e.txFrameLen.toNat, accepted := e.txFrameLen.toNat })

/-- 60_exceptions.md R154: a short write ends the transaction with PortWriteFailed and no DECODE; what was sent is the
beginning of the frame in SCRATCH. That no other agent acts during the procedure is the model's form of it (entry 14,
DEDUCED), and so are the fields that hold what was sent and how much (entry 5, DESIGN CHOICE). -/
def Obligations.ShortWriteEndsTheTransaction : Prop :=
  ∀ (tx : Transaction) (k : Nat) (s e : State), e = hostCommand .encode (writeTransaction tx s) →
    e.status.outcome ≠ .bufferTooSmall → k < e.txFrameLen.toNat →
    (perform tx k s).result = some (.protocolError .portWriteFailed) ∧ (perform tx k s).decodes = 0 ∧
    (perform tx k s).state =
      { e with sent := e.sent ++ (e.memRead .scratch 0 e.txFrameLen.toNat).take k, accepted := k }
end

