-- ==== Sys2Proof/Laws/Config.lean ====
section
/-! SUPPORT. The bounds of the build-time parameters (00_scope.md R7). -/

namespace Sys2Proof

theorem Config.frameBufCap_ge (c : Config) : 26 ≤ c.frameBufCap := by
  unfold Config.frameBufCap; omega

theorem Config.frameBufCap_le (c : Config) : c.frameBufCap ≤ 65551 := by
  have := c.spare.isLt
  unfold Config.frameBufCap; omega

theorem Config.txvalBytes_eq (c : Config) : c.txvalBytes = c.spare.val := by
  simp [Config.txvalBytes, Config.frameBufCap]

theorem Config.rxvalBytes_lt (c : Config) : c.rxvalBytes < 65536 := c.rxvalSize.isLt

end Sys2Proof
end

