-- ==== Sys2Proof/Laws/Memory.lean ====
section
/-! SUPPORT. Reading what was written, and the canonical form, for one byte memory. -/

namespace Sys2Proof.Machine

open Sys2Proof

variable {dflt : Nat → Byte} {m : Memory} {size i j : Nat} {b : Byte}

theorem Memory.lookup_put_same : Memory.lookup (Memory.put m i b) i = some b := by
  induction m with
  | nil => simp [Memory.put, Memory.lookup]
  | cons c m ih =>
    obtain ⟨k, d⟩ := c
    unfold Memory.put
    split
    · simp [Memory.lookup]
    · split
      · simp [Memory.lookup]
      · simp only [Memory.lookup, if_neg (show ¬ k = i by omega), ih]

theorem Memory.lookup_put_other (h : j ≠ i) : Memory.lookup (Memory.put m i b) j = Memory.lookup m j := by
  induction m with
  | nil => simp [Memory.put, Memory.lookup, h.symm]
  | cons c m ih =>
    obtain ⟨k, d⟩ := c
    unfold Memory.put
    split
    · simp [Memory.lookup, h.symm]
    · split
      · subst_vars
        simp [Memory.lookup, h.symm]
      · simp only [Memory.lookup, ih]

theorem Memory.lookup_drop_other (h : j ≠ i) : Memory.lookup (Memory.drop m i) j = Memory.lookup m j := by
  induction m with
  | nil => rfl
  | cons c m ih =>
    obtain ⟨k, d⟩ := c
    simp only [Memory.drop, List.filter_cons] at ih ⊢
    by_cases hk : k = i
    · simp only [hk, bne_self_eq_false, Bool.false_eq_true, if_false, Memory.lookup, if_neg h.symm, ih]
    · simp only [bne_iff_ne, ne_eq, hk, not_false_eq_true, if_true, Memory.lookup, ih]

theorem Memory.lookup_drop_same : Memory.lookup (Memory.drop m i) i = none := by
  induction m with
  | nil => rfl
  | cons c m ih =>
    obtain ⟨k, d⟩ := c
    simp only [Memory.drop, List.filter_cons] at ih ⊢
    by_cases hk : k = i
    · simp only [hk, bne_self_eq_false, Bool.false_eq_true, if_false, ih]
    · simp only [bne_iff_ne, ne_eq, hk, not_false_eq_true, if_true, Memory.lookup, if_false, ih]

theorem Memory.read_write_same : Memory.read dflt (Memory.write dflt m i b) i = b := by
  unfold Memory.read Memory.write
  split
  · simp [Memory.lookup_drop_same, ‹b = _›]
  · simp [Memory.lookup_put_same]

theorem Memory.read_write_other (h : j ≠ i) :
    Memory.read dflt (Memory.write dflt m i b) j = Memory.read dflt m j := by
  unfold Memory.read Memory.write
  split
  · rw [Memory.lookup_drop_other h]
  · rw [Memory.lookup_put_other h]

theorem Memory.mem_put {c : Host.Cell} (h : c ∈ Memory.put m i b) : c = (i, b) ∨ c ∈ m := by
  induction m with
  | nil => simpa [Memory.put] using h
  | cons d m ih =>
    obtain ⟨k, e⟩ := d
    unfold Memory.put at h
    split at h
    · simpa using h
    · split at h
      · rcases List.mem_cons.1 h with h | h
        · exact .inl h
        · exact .inr (List.mem_cons_of_mem _ h)
      · rcases List.mem_cons.1 h with h | h
        · exact .inr (by simp [h])
        · exact (ih h).imp_right (List.mem_cons_of_mem _)

theorem Memory.mem_drop {c : Host.Cell} (h : c ∈ Memory.drop m i) : c ∈ m := (List.mem_filter.1 h).1

theorem Memory.pairwise_put (h : m.Pairwise fun c d => c.1 < d.1) :
    (Memory.put m i b).Pairwise fun c d => c.1 < d.1 := by
  induction m with
  | nil => simp [Memory.put]
  | cons c m ih =>
    obtain ⟨k, d⟩ := c
    obtain ⟨hk, hm⟩ := List.pairwise_cons.1 h
    unfold Memory.put
    split
    · refine List.pairwise_cons.2 ⟨?_, h⟩
      rintro ⟨k', d'⟩ hc
      rcases List.mem_cons.1 hc with hc | hc
      · cases hc; assumption
      · have := hk _ hc
        simp at this ⊢; omega
    · split
      · subst_vars
        exact List.pairwise_cons.2 ⟨hk, hm⟩
      · refine List.pairwise_cons.2 ⟨fun c hc => ?_, ih hm⟩
        rcases Memory.mem_put hc with rfl | hc
        · simp; omega
        · exact hk c hc

theorem Memory.pairwise_drop (h : m.Pairwise fun c d => c.1 < d.1) :
    (Memory.drop m i).Pairwise fun c d => c.1 < d.1 := h.filter _

/-- A write keeps the canonical form. -/
theorem Memory.write_wf (h : Memory.wf dflt m) : Memory.wf dflt (Memory.write dflt m i b) := by
  unfold Memory.write
  split
  · exact ⟨Memory.pairwise_drop h.1, fun c hc => h.2 c (Memory.mem_drop hc)⟩
  · refine ⟨Memory.pairwise_put h.1, fun c hc => ?_⟩
    rcases Memory.mem_put hc with rfl | hc
    · assumption
    · exact h.2 c hc

theorem Memory.mem_write {c : Host.Cell} (h : c ∈ Memory.write dflt m i b) : c.1 = i ∨ c ∈ m := by
  unfold Memory.write at h
  split at h
  · exact .inr (Memory.mem_drop h)
  · exact (Memory.mem_put h).imp_left fun h => by rw [h]

/-- `MemWrite` keeps the canonical form. -/
theorem Memory.writeBytes_wf {bs : List Byte} (h : Memory.wf dflt m) :
    Memory.wf dflt (Memory.writeBytes dflt size m i bs) := by
  induction bs generalizing m i with
  | nil => exact h
  | cons b bs ih =>
    unfold Memory.writeBytes
    split
    · exact ih (Memory.write_wf h)
    · exact ih h

/-- `MemWrite` lists no index at or past the memory's size. -/
theorem Memory.writeBytes_inside {bs : List Byte} (h : ∀ c ∈ m, c.1 < size) :
    ∀ c ∈ Memory.writeBytes dflt size m i bs, c.1 < size := by
  induction bs generalizing m i with
  | nil => exact h
  | cons b bs ih =>
    unfold Memory.writeBytes
    split
    · refine ih fun c hc => ?_
      rcases Memory.mem_write hc with hc | hc
      · omega
      · exact h c hc
    · exact ih h

theorem Memory.read_writeBytes_before {bs : List Byte} (h : j < i) :
    Memory.read dflt (Memory.writeBytes dflt size m i bs) j = Memory.read dflt m j := by
  induction bs generalizing m i with
  | nil => rfl
  | cons b bs ih =>
    unfold Memory.writeBytes
    rw [ih (by omega)]
    split
    · rw [Memory.read_write_other (by omega)]
    · rfl

/-- What `MemWrite` does to every byte inside the memory. -/
theorem Memory.read_writeBytes {bs : List Byte} (hj : j < size) :
    Memory.read dflt (Memory.writeBytes dflt size m i bs) j =
      if i ≤ j ∧ j < i + bs.length then bs.getD (j - i) 0 else Memory.read dflt m j := by
  induction bs generalizing m i with
  | nil =>
    rw [if_neg (by simp only [List.length_nil]; omega)]
    rfl
  | cons b bs ih =>
    unfold Memory.writeBytes
    rcases Nat.lt_trichotomy j i with hlt | rfl | hgt
    · have hout : ¬ (i ≤ j ∧ j < i + (b :: bs).length) := by omega
      rw [Memory.read_writeBytes_before (by omega), if_neg hout]
      split
      · rw [Memory.read_write_other (by omega)]
      · rfl
    · have hin : j ≤ j ∧ j < j + (b :: bs).length := by simp
      rw [Memory.read_writeBytes_before (by omega), if_pos hj, Memory.read_write_same, if_pos hin]
      simp
    · rw [ih, List.length_cons]
      have hsub : j - i = (j - (i + 1)) + 1 := by omega
      by_cases hin : i + 1 ≤ j ∧ j < i + 1 + bs.length
      · have hin' : i ≤ j ∧ j < i + (bs.length + 1) := by omega
        rw [if_pos hin, if_pos hin', hsub, List.getD_cons_succ]
      · have hout : ¬ (i ≤ j ∧ j < i + (bs.length + 1)) := by omega
        rw [if_neg hin, if_neg hout]
        split
        · rw [Memory.read_write_other (by omega)]
        · rfl

end Sys2Proof.Machine
end

