-- ==== Sys2Proof/Laws/State.lean ====
section
/-! SUPPORT. Each field after each shared update of the state, so that no later proof unfolds a record update. -/

namespace Sys2Proof.Machine

open Sys2Proof

variable (s : State) (c : OutcomeCode) (m : MemId) (cells : Memory) (i : Nat) (bs : List Byte)

/-! A phase written. -/

@[simp] theorem State.setPhase_phase (p : Phase) : (s.setPhase p).status.phase = p := rfl
@[simp] theorem State.setPhase_busy (p : Phase) : (s.setPhase p).status.busy = s.status.busy := rfl
@[simp] theorem State.setPhase_outcome (p : Phase) : (s.setPhase p).status.outcome = s.status.outcome := rfl
@[simp] theorem State.setPhase_faultBusy (p : Phase) : (s.setPhase p).status.faultBusy = s.status.faultBusy := rfl
@[simp] theorem State.setPhase_chk (p : Phase) : (s.setPhase p).chk = s.chk := rfl
@[simp] theorem State.setPhase_tx (p : Phase) : (s.setPhase p).tx = s.tx := rfl
@[simp] theorem State.setPhase_txFrameLen (p : Phase) : (s.setPhase p).txFrameLen = s.txFrameLen := rfl
@[simp] theorem State.setPhase_rxCap (p : Phase) : (s.setPhase p).rxCap = s.rxCap := rfl
@[simp] theorem State.setPhase_rx (p : Phase) : (s.setPhase p).rx = s.rx := rfl
@[simp] theorem State.setPhase_codecInt (p : Phase) : (s.setPhase p).codecInt = s.codecInt := rfl
@[simp] theorem State.setPhase_codecFloat (p : Phase) : (s.setPhase p).codecFloat = s.codecFloat := rfl
@[simp] theorem State.setPhase_scratch (p : Phase) : (s.setPhase p).scratch = s.scratch := rfl
@[simp] theorem State.setPhase_txval (p : Phase) : (s.setPhase p).txval = s.txval := rfl
@[simp] theorem State.setPhase_rxval (p : Phase) : (s.setPhase p).rxval = s.rxval := rfl
@[simp] theorem State.setPhase_decPos (p : Phase) : (s.setPhase p).decPos = s.decPos := rfl
@[simp] theorem State.setPhase_decCap (p : Phase) : (s.setPhase p).decCap = s.decCap := rfl
@[simp] theorem State.setPhase_cfg (p : Phase) : (s.setPhase p).cfg = s.cfg := rfl
@[simp] theorem State.setPhase_draw (p : Phase) : (s.setPhase p).draw = s.draw := rfl
@[simp] theorem State.setPhase_agenda (p : Phase) : (s.setPhase p).agenda = s.agenda := rfl
@[simp] theorem State.setPhase_rxAnswers (p : Phase) : (s.setPhase p).rxAnswers = s.rxAnswers := rfl
@[simp] theorem State.setPhase_sent (p : Phase) : (s.setPhase p).sent = s.sent := rfl
@[simp] theorem State.setPhase_accepted (p : Phase) : (s.setPhase p).accepted = s.accepted := rfl
@[simp] theorem State.setPhase_busData (p : Phase) : (s.setPhase p).busData = s.busData := rfl

/-! `setChk`. -/

@[simp] theorem State.setChk_status (v : Checksum) : (s.setChk v).status = s.status := rfl
@[simp] theorem State.setChk_chk (v : Checksum) : (s.setChk v).chk = v := rfl
@[simp] theorem State.setChk_tx (v : Checksum) : (s.setChk v).tx = s.tx := rfl
@[simp] theorem State.setChk_txFrameLen (v : Checksum) : (s.setChk v).txFrameLen = s.txFrameLen := rfl
@[simp] theorem State.setChk_rxCap (v : Checksum) : (s.setChk v).rxCap = s.rxCap := rfl
@[simp] theorem State.setChk_rx (v : Checksum) : (s.setChk v).rx = s.rx := rfl
@[simp] theorem State.setChk_codecInt (v : Checksum) : (s.setChk v).codecInt = s.codecInt := rfl
@[simp] theorem State.setChk_codecFloat (v : Checksum) : (s.setChk v).codecFloat = s.codecFloat := rfl
@[simp] theorem State.setChk_scratch (v : Checksum) : (s.setChk v).scratch = s.scratch := rfl
@[simp] theorem State.setChk_txval (v : Checksum) : (s.setChk v).txval = s.txval := rfl
@[simp] theorem State.setChk_rxval (v : Checksum) : (s.setChk v).rxval = s.rxval := rfl
@[simp] theorem State.setChk_decPos (v : Checksum) : (s.setChk v).decPos = s.decPos := rfl
@[simp] theorem State.setChk_decCap (v : Checksum) : (s.setChk v).decCap = s.decCap := rfl
@[simp] theorem State.setChk_cfg (v : Checksum) : (s.setChk v).cfg = s.cfg := rfl
@[simp] theorem State.setChk_draw (v : Checksum) : (s.setChk v).draw = s.draw := rfl
@[simp] theorem State.setChk_agenda (v : Checksum) : (s.setChk v).agenda = s.agenda := rfl
@[simp] theorem State.setChk_rxAnswers (v : Checksum) : (s.setChk v).rxAnswers = s.rxAnswers := rfl
@[simp] theorem State.setChk_sent (v : Checksum) : (s.setChk v).sent = s.sent := rfl
@[simp] theorem State.setChk_accepted (v : Checksum) : (s.setChk v).accepted = s.accepted := rfl
@[simp] theorem State.setChk_busData (v : Checksum) : (s.setChk v).busData = s.busData := rfl

/-! `setTx`. -/

@[simp] theorem State.setTx_status (v : Descriptor) : (s.setTx v).status = s.status := rfl
@[simp] theorem State.setTx_chk (v : Descriptor) : (s.setTx v).chk = s.chk := rfl
@[simp] theorem State.setTx_tx (v : Descriptor) : (s.setTx v).tx = v := rfl
@[simp] theorem State.setTx_txFrameLen (v : Descriptor) : (s.setTx v).txFrameLen = s.txFrameLen := rfl
@[simp] theorem State.setTx_rxCap (v : Descriptor) : (s.setTx v).rxCap = s.rxCap := rfl
@[simp] theorem State.setTx_rx (v : Descriptor) : (s.setTx v).rx = s.rx := rfl
@[simp] theorem State.setTx_codecInt (v : Descriptor) : (s.setTx v).codecInt = s.codecInt := rfl
@[simp] theorem State.setTx_codecFloat (v : Descriptor) : (s.setTx v).codecFloat = s.codecFloat := rfl
@[simp] theorem State.setTx_scratch (v : Descriptor) : (s.setTx v).scratch = s.scratch := rfl
@[simp] theorem State.setTx_txval (v : Descriptor) : (s.setTx v).txval = s.txval := rfl
@[simp] theorem State.setTx_rxval (v : Descriptor) : (s.setTx v).rxval = s.rxval := rfl
@[simp] theorem State.setTx_decPos (v : Descriptor) : (s.setTx v).decPos = s.decPos := rfl
@[simp] theorem State.setTx_decCap (v : Descriptor) : (s.setTx v).decCap = s.decCap := rfl
@[simp] theorem State.setTx_cfg (v : Descriptor) : (s.setTx v).cfg = s.cfg := rfl
@[simp] theorem State.setTx_draw (v : Descriptor) : (s.setTx v).draw = s.draw := rfl
@[simp] theorem State.setTx_agenda (v : Descriptor) : (s.setTx v).agenda = s.agenda := rfl
@[simp] theorem State.setTx_rxAnswers (v : Descriptor) : (s.setTx v).rxAnswers = s.rxAnswers := rfl
@[simp] theorem State.setTx_sent (v : Descriptor) : (s.setTx v).sent = s.sent := rfl
@[simp] theorem State.setTx_accepted (v : Descriptor) : (s.setTx v).accepted = s.accepted := rfl
@[simp] theorem State.setTx_busData (v : Descriptor) : (s.setTx v).busData = s.busData := rfl

/-! `setTxFrameLen`. -/

@[simp] theorem State.setTxFrameLen_status (v : BitVec 17) : (s.setTxFrameLen v).status = s.status := rfl
@[simp] theorem State.setTxFrameLen_chk (v : BitVec 17) : (s.setTxFrameLen v).chk = s.chk := rfl
@[simp] theorem State.setTxFrameLen_tx (v : BitVec 17) : (s.setTxFrameLen v).tx = s.tx := rfl
@[simp] theorem State.setTxFrameLen_txFrameLen (v : BitVec 17) : (s.setTxFrameLen v).txFrameLen = v := rfl
@[simp] theorem State.setTxFrameLen_rxCap (v : BitVec 17) : (s.setTxFrameLen v).rxCap = s.rxCap := rfl
@[simp] theorem State.setTxFrameLen_rx (v : BitVec 17) : (s.setTxFrameLen v).rx = s.rx := rfl
@[simp] theorem State.setTxFrameLen_codecInt (v : BitVec 17) : (s.setTxFrameLen v).codecInt = s.codecInt := rfl
@[simp] theorem State.setTxFrameLen_codecFloat (v : BitVec 17) : (s.setTxFrameLen v).codecFloat = s.codecFloat := rfl
@[simp] theorem State.setTxFrameLen_scratch (v : BitVec 17) : (s.setTxFrameLen v).scratch = s.scratch := rfl
@[simp] theorem State.setTxFrameLen_txval (v : BitVec 17) : (s.setTxFrameLen v).txval = s.txval := rfl
@[simp] theorem State.setTxFrameLen_rxval (v : BitVec 17) : (s.setTxFrameLen v).rxval = s.rxval := rfl
@[simp] theorem State.setTxFrameLen_decPos (v : BitVec 17) : (s.setTxFrameLen v).decPos = s.decPos := rfl
@[simp] theorem State.setTxFrameLen_decCap (v : BitVec 17) : (s.setTxFrameLen v).decCap = s.decCap := rfl
@[simp] theorem State.setTxFrameLen_cfg (v : BitVec 17) : (s.setTxFrameLen v).cfg = s.cfg := rfl
@[simp] theorem State.setTxFrameLen_draw (v : BitVec 17) : (s.setTxFrameLen v).draw = s.draw := rfl
@[simp] theorem State.setTxFrameLen_agenda (v : BitVec 17) : (s.setTxFrameLen v).agenda = s.agenda := rfl
@[simp] theorem State.setTxFrameLen_rxAnswers (v : BitVec 17) : (s.setTxFrameLen v).rxAnswers = s.rxAnswers := rfl
@[simp] theorem State.setTxFrameLen_sent (v : BitVec 17) : (s.setTxFrameLen v).sent = s.sent := rfl
@[simp] theorem State.setTxFrameLen_accepted (v : BitVec 17) : (s.setTxFrameLen v).accepted = s.accepted := rfl
@[simp] theorem State.setTxFrameLen_busData (v : BitVec 17) : (s.setTxFrameLen v).busData = s.busData := rfl

/-! `setRxCap`. -/

@[simp] theorem State.setRxCap_status (v : Half) : (s.setRxCap v).status = s.status := rfl
@[simp] theorem State.setRxCap_chk (v : Half) : (s.setRxCap v).chk = s.chk := rfl
@[simp] theorem State.setRxCap_tx (v : Half) : (s.setRxCap v).tx = s.tx := rfl
@[simp] theorem State.setRxCap_txFrameLen (v : Half) : (s.setRxCap v).txFrameLen = s.txFrameLen := rfl
@[simp] theorem State.setRxCap_rxCap (v : Half) : (s.setRxCap v).rxCap = v := rfl
@[simp] theorem State.setRxCap_rx (v : Half) : (s.setRxCap v).rx = s.rx := rfl
@[simp] theorem State.setRxCap_codecInt (v : Half) : (s.setRxCap v).codecInt = s.codecInt := rfl
@[simp] theorem State.setRxCap_codecFloat (v : Half) : (s.setRxCap v).codecFloat = s.codecFloat := rfl
@[simp] theorem State.setRxCap_scratch (v : Half) : (s.setRxCap v).scratch = s.scratch := rfl
@[simp] theorem State.setRxCap_txval (v : Half) : (s.setRxCap v).txval = s.txval := rfl
@[simp] theorem State.setRxCap_rxval (v : Half) : (s.setRxCap v).rxval = s.rxval := rfl
@[simp] theorem State.setRxCap_decPos (v : Half) : (s.setRxCap v).decPos = s.decPos := rfl
@[simp] theorem State.setRxCap_decCap (v : Half) : (s.setRxCap v).decCap = s.decCap := rfl
@[simp] theorem State.setRxCap_cfg (v : Half) : (s.setRxCap v).cfg = s.cfg := rfl
@[simp] theorem State.setRxCap_draw (v : Half) : (s.setRxCap v).draw = s.draw := rfl
@[simp] theorem State.setRxCap_agenda (v : Half) : (s.setRxCap v).agenda = s.agenda := rfl
@[simp] theorem State.setRxCap_rxAnswers (v : Half) : (s.setRxCap v).rxAnswers = s.rxAnswers := rfl
@[simp] theorem State.setRxCap_sent (v : Half) : (s.setRxCap v).sent = s.sent := rfl
@[simp] theorem State.setRxCap_accepted (v : Half) : (s.setRxCap v).accepted = s.accepted := rfl
@[simp] theorem State.setRxCap_busData (v : Half) : (s.setRxCap v).busData = s.busData := rfl

/-! `setRx`. -/

@[simp] theorem State.setRx_status (v : RxRegs) : (s.setRx v).status = s.status := rfl
@[simp] theorem State.setRx_chk (v : RxRegs) : (s.setRx v).chk = s.chk := rfl
@[simp] theorem State.setRx_tx (v : RxRegs) : (s.setRx v).tx = s.tx := rfl
@[simp] theorem State.setRx_txFrameLen (v : RxRegs) : (s.setRx v).txFrameLen = s.txFrameLen := rfl
@[simp] theorem State.setRx_rxCap (v : RxRegs) : (s.setRx v).rxCap = s.rxCap := rfl
@[simp] theorem State.setRx_rx (v : RxRegs) : (s.setRx v).rx = v := rfl
@[simp] theorem State.setRx_codecInt (v : RxRegs) : (s.setRx v).codecInt = s.codecInt := rfl
@[simp] theorem State.setRx_codecFloat (v : RxRegs) : (s.setRx v).codecFloat = s.codecFloat := rfl
@[simp] theorem State.setRx_scratch (v : RxRegs) : (s.setRx v).scratch = s.scratch := rfl
@[simp] theorem State.setRx_txval (v : RxRegs) : (s.setRx v).txval = s.txval := rfl
@[simp] theorem State.setRx_rxval (v : RxRegs) : (s.setRx v).rxval = s.rxval := rfl
@[simp] theorem State.setRx_decPos (v : RxRegs) : (s.setRx v).decPos = s.decPos := rfl
@[simp] theorem State.setRx_decCap (v : RxRegs) : (s.setRx v).decCap = s.decCap := rfl
@[simp] theorem State.setRx_cfg (v : RxRegs) : (s.setRx v).cfg = s.cfg := rfl
@[simp] theorem State.setRx_draw (v : RxRegs) : (s.setRx v).draw = s.draw := rfl
@[simp] theorem State.setRx_agenda (v : RxRegs) : (s.setRx v).agenda = s.agenda := rfl
@[simp] theorem State.setRx_rxAnswers (v : RxRegs) : (s.setRx v).rxAnswers = s.rxAnswers := rfl
@[simp] theorem State.setRx_sent (v : RxRegs) : (s.setRx v).sent = s.sent := rfl
@[simp] theorem State.setRx_accepted (v : RxRegs) : (s.setRx v).accepted = s.accepted := rfl
@[simp] theorem State.setRx_busData (v : RxRegs) : (s.setRx v).busData = s.busData := rfl

/-! `setCodecInt`. -/

@[simp] theorem State.setCodecInt_status (v : Word) : (s.setCodecInt v).status = s.status := rfl
@[simp] theorem State.setCodecInt_chk (v : Word) : (s.setCodecInt v).chk = s.chk := rfl
@[simp] theorem State.setCodecInt_tx (v : Word) : (s.setCodecInt v).tx = s.tx := rfl
@[simp] theorem State.setCodecInt_txFrameLen (v : Word) : (s.setCodecInt v).txFrameLen = s.txFrameLen := rfl
@[simp] theorem State.setCodecInt_rxCap (v : Word) : (s.setCodecInt v).rxCap = s.rxCap := rfl
@[simp] theorem State.setCodecInt_rx (v : Word) : (s.setCodecInt v).rx = s.rx := rfl
@[simp] theorem State.setCodecInt_codecInt (v : Word) : (s.setCodecInt v).codecInt = v := rfl
@[simp] theorem State.setCodecInt_codecFloat (v : Word) : (s.setCodecInt v).codecFloat = s.codecFloat := rfl
@[simp] theorem State.setCodecInt_scratch (v : Word) : (s.setCodecInt v).scratch = s.scratch := rfl
@[simp] theorem State.setCodecInt_txval (v : Word) : (s.setCodecInt v).txval = s.txval := rfl
@[simp] theorem State.setCodecInt_rxval (v : Word) : (s.setCodecInt v).rxval = s.rxval := rfl
@[simp] theorem State.setCodecInt_decPos (v : Word) : (s.setCodecInt v).decPos = s.decPos := rfl
@[simp] theorem State.setCodecInt_decCap (v : Word) : (s.setCodecInt v).decCap = s.decCap := rfl
@[simp] theorem State.setCodecInt_cfg (v : Word) : (s.setCodecInt v).cfg = s.cfg := rfl
@[simp] theorem State.setCodecInt_draw (v : Word) : (s.setCodecInt v).draw = s.draw := rfl
@[simp] theorem State.setCodecInt_agenda (v : Word) : (s.setCodecInt v).agenda = s.agenda := rfl
@[simp] theorem State.setCodecInt_rxAnswers (v : Word) : (s.setCodecInt v).rxAnswers = s.rxAnswers := rfl
@[simp] theorem State.setCodecInt_sent (v : Word) : (s.setCodecInt v).sent = s.sent := rfl
@[simp] theorem State.setCodecInt_accepted (v : Word) : (s.setCodecInt v).accepted = s.accepted := rfl
@[simp] theorem State.setCodecInt_busData (v : Word) : (s.setCodecInt v).busData = s.busData := rfl

/-! `setCodecFloat`. -/

@[simp] theorem State.setCodecFloat_status (v : Word) : (s.setCodecFloat v).status = s.status := rfl
@[simp] theorem State.setCodecFloat_chk (v : Word) : (s.setCodecFloat v).chk = s.chk := rfl
@[simp] theorem State.setCodecFloat_tx (v : Word) : (s.setCodecFloat v).tx = s.tx := rfl
@[simp] theorem State.setCodecFloat_txFrameLen (v : Word) : (s.setCodecFloat v).txFrameLen = s.txFrameLen := rfl
@[simp] theorem State.setCodecFloat_rxCap (v : Word) : (s.setCodecFloat v).rxCap = s.rxCap := rfl
@[simp] theorem State.setCodecFloat_rx (v : Word) : (s.setCodecFloat v).rx = s.rx := rfl
@[simp] theorem State.setCodecFloat_codecInt (v : Word) : (s.setCodecFloat v).codecInt = s.codecInt := rfl
@[simp] theorem State.setCodecFloat_codecFloat (v : Word) : (s.setCodecFloat v).codecFloat = v := rfl
@[simp] theorem State.setCodecFloat_scratch (v : Word) : (s.setCodecFloat v).scratch = s.scratch := rfl
@[simp] theorem State.setCodecFloat_txval (v : Word) : (s.setCodecFloat v).txval = s.txval := rfl
@[simp] theorem State.setCodecFloat_rxval (v : Word) : (s.setCodecFloat v).rxval = s.rxval := rfl
@[simp] theorem State.setCodecFloat_decPos (v : Word) : (s.setCodecFloat v).decPos = s.decPos := rfl
@[simp] theorem State.setCodecFloat_decCap (v : Word) : (s.setCodecFloat v).decCap = s.decCap := rfl
@[simp] theorem State.setCodecFloat_cfg (v : Word) : (s.setCodecFloat v).cfg = s.cfg := rfl
@[simp] theorem State.setCodecFloat_draw (v : Word) : (s.setCodecFloat v).draw = s.draw := rfl
@[simp] theorem State.setCodecFloat_agenda (v : Word) : (s.setCodecFloat v).agenda = s.agenda := rfl
@[simp] theorem State.setCodecFloat_rxAnswers (v : Word) : (s.setCodecFloat v).rxAnswers = s.rxAnswers := rfl
@[simp] theorem State.setCodecFloat_sent (v : Word) : (s.setCodecFloat v).sent = s.sent := rfl
@[simp] theorem State.setCodecFloat_accepted (v : Word) : (s.setCodecFloat v).accepted = s.accepted := rfl
@[simp] theorem State.setCodecFloat_busData (v : Word) : (s.setCodecFloat v).busData = s.busData := rfl

/-! `setDecPos`. -/

@[simp] theorem State.setDecPos_status (v : BitVec 17) : (s.setDecPos v).status = s.status := rfl
@[simp] theorem State.setDecPos_chk (v : BitVec 17) : (s.setDecPos v).chk = s.chk := rfl
@[simp] theorem State.setDecPos_tx (v : BitVec 17) : (s.setDecPos v).tx = s.tx := rfl
@[simp] theorem State.setDecPos_txFrameLen (v : BitVec 17) : (s.setDecPos v).txFrameLen = s.txFrameLen := rfl
@[simp] theorem State.setDecPos_rxCap (v : BitVec 17) : (s.setDecPos v).rxCap = s.rxCap := rfl
@[simp] theorem State.setDecPos_rx (v : BitVec 17) : (s.setDecPos v).rx = s.rx := rfl
@[simp] theorem State.setDecPos_codecInt (v : BitVec 17) : (s.setDecPos v).codecInt = s.codecInt := rfl
@[simp] theorem State.setDecPos_codecFloat (v : BitVec 17) : (s.setDecPos v).codecFloat = s.codecFloat := rfl
@[simp] theorem State.setDecPos_scratch (v : BitVec 17) : (s.setDecPos v).scratch = s.scratch := rfl
@[simp] theorem State.setDecPos_txval (v : BitVec 17) : (s.setDecPos v).txval = s.txval := rfl
@[simp] theorem State.setDecPos_rxval (v : BitVec 17) : (s.setDecPos v).rxval = s.rxval := rfl
@[simp] theorem State.setDecPos_decPos (v : BitVec 17) : (s.setDecPos v).decPos = v := rfl
@[simp] theorem State.setDecPos_decCap (v : BitVec 17) : (s.setDecPos v).decCap = s.decCap := rfl
@[simp] theorem State.setDecPos_cfg (v : BitVec 17) : (s.setDecPos v).cfg = s.cfg := rfl
@[simp] theorem State.setDecPos_draw (v : BitVec 17) : (s.setDecPos v).draw = s.draw := rfl
@[simp] theorem State.setDecPos_agenda (v : BitVec 17) : (s.setDecPos v).agenda = s.agenda := rfl
@[simp] theorem State.setDecPos_rxAnswers (v : BitVec 17) : (s.setDecPos v).rxAnswers = s.rxAnswers := rfl
@[simp] theorem State.setDecPos_sent (v : BitVec 17) : (s.setDecPos v).sent = s.sent := rfl
@[simp] theorem State.setDecPos_accepted (v : BitVec 17) : (s.setDecPos v).accepted = s.accepted := rfl
@[simp] theorem State.setDecPos_busData (v : BitVec 17) : (s.setDecPos v).busData = s.busData := rfl

/-! `setAgenda`. -/

@[simp] theorem State.setAgenda_status (v : List Action) : (s.setAgenda v).status = s.status := rfl
@[simp] theorem State.setAgenda_chk (v : List Action) : (s.setAgenda v).chk = s.chk := rfl
@[simp] theorem State.setAgenda_tx (v : List Action) : (s.setAgenda v).tx = s.tx := rfl
@[simp] theorem State.setAgenda_txFrameLen (v : List Action) : (s.setAgenda v).txFrameLen = s.txFrameLen := rfl
@[simp] theorem State.setAgenda_rxCap (v : List Action) : (s.setAgenda v).rxCap = s.rxCap := rfl
@[simp] theorem State.setAgenda_rx (v : List Action) : (s.setAgenda v).rx = s.rx := rfl
@[simp] theorem State.setAgenda_codecInt (v : List Action) : (s.setAgenda v).codecInt = s.codecInt := rfl
@[simp] theorem State.setAgenda_codecFloat (v : List Action) : (s.setAgenda v).codecFloat = s.codecFloat := rfl
@[simp] theorem State.setAgenda_scratch (v : List Action) : (s.setAgenda v).scratch = s.scratch := rfl
@[simp] theorem State.setAgenda_txval (v : List Action) : (s.setAgenda v).txval = s.txval := rfl
@[simp] theorem State.setAgenda_rxval (v : List Action) : (s.setAgenda v).rxval = s.rxval := rfl
@[simp] theorem State.setAgenda_decPos (v : List Action) : (s.setAgenda v).decPos = s.decPos := rfl
@[simp] theorem State.setAgenda_decCap (v : List Action) : (s.setAgenda v).decCap = s.decCap := rfl
@[simp] theorem State.setAgenda_cfg (v : List Action) : (s.setAgenda v).cfg = s.cfg := rfl
@[simp] theorem State.setAgenda_draw (v : List Action) : (s.setAgenda v).draw = s.draw := rfl
@[simp] theorem State.setAgenda_agenda (v : List Action) : (s.setAgenda v).agenda = v := rfl
@[simp] theorem State.setAgenda_rxAnswers (v : List Action) : (s.setAgenda v).rxAnswers = s.rxAnswers := rfl
@[simp] theorem State.setAgenda_sent (v : List Action) : (s.setAgenda v).sent = s.sent := rfl
@[simp] theorem State.setAgenda_accepted (v : List Action) : (s.setAgenda v).accepted = s.accepted := rfl
@[simp] theorem State.setAgenda_busData (v : List Action) : (s.setAgenda v).busData = s.busData := rfl

/-! `setAnswers`. -/

@[simp] theorem State.setAnswers_status (v : List RxEvent) : (s.setAnswers v).status = s.status := rfl
@[simp] theorem State.setAnswers_chk (v : List RxEvent) : (s.setAnswers v).chk = s.chk := rfl
@[simp] theorem State.setAnswers_tx (v : List RxEvent) : (s.setAnswers v).tx = s.tx := rfl
@[simp] theorem State.setAnswers_txFrameLen (v : List RxEvent) : (s.setAnswers v).txFrameLen = s.txFrameLen := rfl
@[simp] theorem State.setAnswers_rxCap (v : List RxEvent) : (s.setAnswers v).rxCap = s.rxCap := rfl
@[simp] theorem State.setAnswers_rx (v : List RxEvent) : (s.setAnswers v).rx = s.rx := rfl
@[simp] theorem State.setAnswers_codecInt (v : List RxEvent) : (s.setAnswers v).codecInt = s.codecInt := rfl
@[simp] theorem State.setAnswers_codecFloat (v : List RxEvent) : (s.setAnswers v).codecFloat = s.codecFloat := rfl
@[simp] theorem State.setAnswers_scratch (v : List RxEvent) : (s.setAnswers v).scratch = s.scratch := rfl
@[simp] theorem State.setAnswers_txval (v : List RxEvent) : (s.setAnswers v).txval = s.txval := rfl
@[simp] theorem State.setAnswers_rxval (v : List RxEvent) : (s.setAnswers v).rxval = s.rxval := rfl
@[simp] theorem State.setAnswers_decPos (v : List RxEvent) : (s.setAnswers v).decPos = s.decPos := rfl
@[simp] theorem State.setAnswers_decCap (v : List RxEvent) : (s.setAnswers v).decCap = s.decCap := rfl
@[simp] theorem State.setAnswers_cfg (v : List RxEvent) : (s.setAnswers v).cfg = s.cfg := rfl
@[simp] theorem State.setAnswers_draw (v : List RxEvent) : (s.setAnswers v).draw = s.draw := rfl
@[simp] theorem State.setAnswers_agenda (v : List RxEvent) : (s.setAnswers v).agenda = s.agenda := rfl
@[simp] theorem State.setAnswers_rxAnswers (v : List RxEvent) : (s.setAnswers v).rxAnswers = v := rfl
@[simp] theorem State.setAnswers_sent (v : List RxEvent) : (s.setAnswers v).sent = s.sent := rfl
@[simp] theorem State.setAnswers_accepted (v : List RxEvent) : (s.setAnswers v).accepted = s.accepted := rfl
@[simp] theorem State.setAnswers_busData (v : List RxEvent) : (s.setAnswers v).busData = s.busData := rfl

/-! `setBusData`. -/

@[simp] theorem State.setBusData_status (v : Word) : (s.setBusData v).status = s.status := rfl
@[simp] theorem State.setBusData_chk (v : Word) : (s.setBusData v).chk = s.chk := rfl
@[simp] theorem State.setBusData_tx (v : Word) : (s.setBusData v).tx = s.tx := rfl
@[simp] theorem State.setBusData_txFrameLen (v : Word) : (s.setBusData v).txFrameLen = s.txFrameLen := rfl
@[simp] theorem State.setBusData_rxCap (v : Word) : (s.setBusData v).rxCap = s.rxCap := rfl
@[simp] theorem State.setBusData_rx (v : Word) : (s.setBusData v).rx = s.rx := rfl
@[simp] theorem State.setBusData_codecInt (v : Word) : (s.setBusData v).codecInt = s.codecInt := rfl
@[simp] theorem State.setBusData_codecFloat (v : Word) : (s.setBusData v).codecFloat = s.codecFloat := rfl
@[simp] theorem State.setBusData_scratch (v : Word) : (s.setBusData v).scratch = s.scratch := rfl
@[simp] theorem State.setBusData_txval (v : Word) : (s.setBusData v).txval = s.txval := rfl
@[simp] theorem State.setBusData_rxval (v : Word) : (s.setBusData v).rxval = s.rxval := rfl
@[simp] theorem State.setBusData_decPos (v : Word) : (s.setBusData v).decPos = s.decPos := rfl
@[simp] theorem State.setBusData_decCap (v : Word) : (s.setBusData v).decCap = s.decCap := rfl
@[simp] theorem State.setBusData_cfg (v : Word) : (s.setBusData v).cfg = s.cfg := rfl
@[simp] theorem State.setBusData_draw (v : Word) : (s.setBusData v).draw = s.draw := rfl
@[simp] theorem State.setBusData_agenda (v : Word) : (s.setBusData v).agenda = s.agenda := rfl
@[simp] theorem State.setBusData_rxAnswers (v : Word) : (s.setBusData v).rxAnswers = s.rxAnswers := rfl
@[simp] theorem State.setBusData_sent (v : Word) : (s.setBusData v).sent = s.sent := rfl
@[simp] theorem State.setBusData_accepted (v : Word) : (s.setBusData v).accepted = s.accepted := rfl
@[simp] theorem State.setBusData_busData (v : Word) : (s.setBusData v).busData = v := rfl

/-! `finish`. -/

@[simp] theorem State.finish_busy : (s.finish c).status.busy = false := rfl
@[simp] theorem State.finish_phase : (s.finish c).status.phase = .idle := rfl
@[simp] theorem State.finish_outcome : (s.finish c).status.outcome = c := rfl
@[simp] theorem State.finish_faultBusy : (s.finish c).status.faultBusy = s.status.faultBusy := rfl
@[simp] theorem State.finish_chk : (s.finish c).chk = s.chk := rfl
@[simp] theorem State.finish_tx : (s.finish c).tx = s.tx := rfl
@[simp] theorem State.finish_txFrameLen : (s.finish c).txFrameLen = s.txFrameLen := rfl
@[simp] theorem State.finish_rxCap : (s.finish c).rxCap = s.rxCap := rfl
@[simp] theorem State.finish_rx : (s.finish c).rx = s.rx := rfl
@[simp] theorem State.finish_codecInt : (s.finish c).codecInt = s.codecInt := rfl
@[simp] theorem State.finish_codecFloat : (s.finish c).codecFloat = s.codecFloat := rfl
@[simp] theorem State.finish_scratch : (s.finish c).scratch = s.scratch := rfl
@[simp] theorem State.finish_txval : (s.finish c).txval = s.txval := rfl
@[simp] theorem State.finish_rxval : (s.finish c).rxval = s.rxval := rfl
@[simp] theorem State.finish_decPos : (s.finish c).decPos = s.decPos := rfl
@[simp] theorem State.finish_decCap : (s.finish c).decCap = s.decCap := rfl
@[simp] theorem State.finish_cfg : (s.finish c).cfg = s.cfg := rfl
@[simp] theorem State.finish_draw : (s.finish c).draw = s.draw := rfl
@[simp] theorem State.finish_agenda : (s.finish c).agenda = s.agenda := rfl
@[simp] theorem State.finish_rxAnswers : (s.finish c).rxAnswers = s.rxAnswers := rfl
@[simp] theorem State.finish_sent : (s.finish c).sent = s.sent := rfl
@[simp] theorem State.finish_accepted : (s.finish c).accepted = s.accepted := rfl
@[simp] theorem State.finish_busData : (s.finish c).busData = s.busData := rfl

/-! The busy fault. -/

@[simp] theorem State.busyFault_faultBusy : s.busyFault.status.faultBusy = true := rfl
@[simp] theorem State.busyFault_busy : s.busyFault.status.busy = s.status.busy := rfl
@[simp] theorem State.busyFault_phase : s.busyFault.status.phase = s.status.phase := rfl
@[simp] theorem State.busyFault_outcome : s.busyFault.status.outcome = s.status.outcome := rfl
@[simp] theorem State.busyFault_chk : s.busyFault.chk = s.chk := rfl
@[simp] theorem State.busyFault_tx : s.busyFault.tx = s.tx := rfl
@[simp] theorem State.busyFault_txFrameLen : s.busyFault.txFrameLen = s.txFrameLen := rfl
@[simp] theorem State.busyFault_rxCap : s.busyFault.rxCap = s.rxCap := rfl
@[simp] theorem State.busyFault_rx : s.busyFault.rx = s.rx := rfl
@[simp] theorem State.busyFault_codecInt : s.busyFault.codecInt = s.codecInt := rfl
@[simp] theorem State.busyFault_codecFloat : s.busyFault.codecFloat = s.codecFloat := rfl
@[simp] theorem State.busyFault_scratch : s.busyFault.scratch = s.scratch := rfl
@[simp] theorem State.busyFault_txval : s.busyFault.txval = s.txval := rfl
@[simp] theorem State.busyFault_rxval : s.busyFault.rxval = s.rxval := rfl
@[simp] theorem State.busyFault_decPos : s.busyFault.decPos = s.decPos := rfl
@[simp] theorem State.busyFault_decCap : s.busyFault.decCap = s.decCap := rfl
@[simp] theorem State.busyFault_cfg : s.busyFault.cfg = s.cfg := rfl
@[simp] theorem State.busyFault_draw : s.busyFault.draw = s.draw := rfl
@[simp] theorem State.busyFault_agenda : s.busyFault.agenda = s.agenda := rfl
@[simp] theorem State.busyFault_rxAnswers : s.busyFault.rxAnswers = s.rxAnswers := rfl
@[simp] theorem State.busyFault_sent : s.busyFault.sent = s.sent := rfl
@[simp] theorem State.busyFault_accepted : s.busyFault.accepted = s.accepted := rfl
@[simp] theorem State.busyFault_busData : s.busyFault.busData = s.busData := rfl

/-! A memory's cells replaced. -/

@[simp] theorem State.setMem_scratch : (s.setMem .scratch cells).scratch = cells := rfl
@[simp] theorem State.setMem_txval : (s.setMem .txval cells).txval = cells := rfl
@[simp] theorem State.setMem_rxval : (s.setMem .rxval cells).rxval = cells := rfl
@[simp] theorem State.setMem_scratch_txval : (s.setMem .scratch cells).txval = s.txval := rfl
@[simp] theorem State.setMem_scratch_rxval : (s.setMem .scratch cells).rxval = s.rxval := rfl
@[simp] theorem State.setMem_txval_scratch : (s.setMem .txval cells).scratch = s.scratch := rfl
@[simp] theorem State.setMem_txval_rxval : (s.setMem .txval cells).rxval = s.rxval := rfl
@[simp] theorem State.setMem_rxval_scratch : (s.setMem .rxval cells).scratch = s.scratch := rfl
@[simp] theorem State.setMem_rxval_txval : (s.setMem .rxval cells).txval = s.txval := rfl
@[simp] theorem State.setMem_frame_status : (s.setMem m cells).status = s.status := by cases m <;> rfl
@[simp] theorem State.setMem_frame_chk : (s.setMem m cells).chk = s.chk := by cases m <;> rfl
@[simp] theorem State.setMem_frame_tx : (s.setMem m cells).tx = s.tx := by cases m <;> rfl
@[simp] theorem State.setMem_frame_txFrameLen : (s.setMem m cells).txFrameLen = s.txFrameLen := by cases m <;> rfl
@[simp] theorem State.setMem_frame_rxCap : (s.setMem m cells).rxCap = s.rxCap := by cases m <;> rfl
@[simp] theorem State.setMem_frame_rx : (s.setMem m cells).rx = s.rx := by cases m <;> rfl
@[simp] theorem State.setMem_frame_codecInt : (s.setMem m cells).codecInt = s.codecInt := by cases m <;> rfl
@[simp] theorem State.setMem_frame_codecFloat : (s.setMem m cells).codecFloat = s.codecFloat := by cases m <;> rfl
@[simp] theorem State.setMem_frame_decPos : (s.setMem m cells).decPos = s.decPos := by cases m <;> rfl
@[simp] theorem State.setMem_frame_decCap : (s.setMem m cells).decCap = s.decCap := by cases m <;> rfl
@[simp] theorem State.setMem_frame_cfg : (s.setMem m cells).cfg = s.cfg := by cases m <;> rfl
@[simp] theorem State.setMem_frame_draw : (s.setMem m cells).draw = s.draw := by cases m <;> rfl
@[simp] theorem State.setMem_frame_agenda : (s.setMem m cells).agenda = s.agenda := by cases m <;> rfl
@[simp] theorem State.setMem_frame_rxAnswers : (s.setMem m cells).rxAnswers = s.rxAnswers := by cases m <;> rfl
@[simp] theorem State.setMem_frame_sent : (s.setMem m cells).sent = s.sent := by cases m <;> rfl
@[simp] theorem State.setMem_frame_accepted : (s.setMem m cells).accepted = s.accepted := by cases m <;> rfl
@[simp] theorem State.setMem_frame_busData : (s.setMem m cells).busData = s.busData := by cases m <;> rfl

/-! `MemWrite`. -/

@[simp] theorem State.storeBytes_scratch_txval : (s.storeBytes .scratch i bs).txval = s.txval := rfl
@[simp] theorem State.storeBytes_scratch_rxval : (s.storeBytes .scratch i bs).rxval = s.rxval := rfl
@[simp] theorem State.storeBytes_txval_scratch : (s.storeBytes .txval i bs).scratch = s.scratch := rfl
@[simp] theorem State.storeBytes_txval_rxval : (s.storeBytes .txval i bs).rxval = s.rxval := rfl
@[simp] theorem State.storeBytes_rxval_scratch : (s.storeBytes .rxval i bs).scratch = s.scratch := rfl
@[simp] theorem State.storeBytes_rxval_txval : (s.storeBytes .rxval i bs).txval = s.txval := rfl
@[simp] theorem State.storeBytes_status : (s.storeBytes m i bs).status = s.status := by cases m <;> rfl
@[simp] theorem State.storeBytes_chk : (s.storeBytes m i bs).chk = s.chk := by cases m <;> rfl
@[simp] theorem State.storeBytes_tx : (s.storeBytes m i bs).tx = s.tx := by cases m <;> rfl
@[simp] theorem State.storeBytes_txFrameLen : (s.storeBytes m i bs).txFrameLen = s.txFrameLen := by cases m <;> rfl
@[simp] theorem State.storeBytes_rxCap : (s.storeBytes m i bs).rxCap = s.rxCap := by cases m <;> rfl
@[simp] theorem State.storeBytes_rx : (s.storeBytes m i bs).rx = s.rx := by cases m <;> rfl
@[simp] theorem State.storeBytes_codecInt : (s.storeBytes m i bs).codecInt = s.codecInt := by cases m <;> rfl
@[simp] theorem State.storeBytes_codecFloat : (s.storeBytes m i bs).codecFloat = s.codecFloat := by cases m <;> rfl
@[simp] theorem State.storeBytes_decPos : (s.storeBytes m i bs).decPos = s.decPos := by cases m <;> rfl
@[simp] theorem State.storeBytes_decCap : (s.storeBytes m i bs).decCap = s.decCap := by cases m <;> rfl
@[simp] theorem State.storeBytes_cfg : (s.storeBytes m i bs).cfg = s.cfg := by cases m <;> rfl
@[simp] theorem State.storeBytes_draw : (s.storeBytes m i bs).draw = s.draw := by cases m <;> rfl
@[simp] theorem State.storeBytes_agenda : (s.storeBytes m i bs).agenda = s.agenda := by cases m <;> rfl
@[simp] theorem State.storeBytes_rxAnswers : (s.storeBytes m i bs).rxAnswers = s.rxAnswers := by cases m <;> rfl
@[simp] theorem State.storeBytes_sent : (s.storeBytes m i bs).sent = s.sent := by cases m <;> rfl
@[simp] theorem State.storeBytes_accepted : (s.storeBytes m i bs).accepted = s.accepted := by cases m <;> rfl
@[simp] theorem State.storeBytes_busData : (s.storeBytes m i bs).busData = s.busData := by cases m <;> rfl

/-! Reset: what it keeps. -/

@[simp] theorem State.platformReset_cfg : s.platformReset.cfg = s.cfg := rfl
@[simp] theorem State.platformReset_agenda : s.platformReset.agenda = s.agenda := rfl
@[simp] theorem State.platformReset_rxAnswers : s.platformReset.rxAnswers = s.rxAnswers := rfl
@[simp] theorem State.platformReset_sent : s.platformReset.sent = s.sent := rfl
@[simp] theorem State.platformReset_accepted : s.platformReset.accepted = s.accepted := rfl
@[simp] theorem State.platformReset_busData : s.platformReset.busData = s.busData := rfl
@[simp] theorem State.platformReset_draw : s.platformReset.draw = Draw.fresh s.draw := rfl
@[simp] theorem State.platformReset_status : s.platformReset.status = State.reset.status := rfl

end Sys2Proof.Machine
end

