-- ==== Sys2Proof/Laws/Ops.lean ====
section
/-! SUPPORT. What the shared operations over the memories do: one lemma each, which later proofs cite. -/

namespace Sys2Proof.Machine

open Sys2Proof

variable {s t : State} {m n : MemId} {i j k len : Nat} {bs : List Byte} {c : OutcomeCode}

/-- A byte read depends on the memory's cells, the configuration and the draw alone. -/
theorem State.byteAt_congr (hc : t.cfg = s.cfg) (hd : t.draw = s.draw) (hm : t.mem m = s.mem m) :
    t.byteAt m i = s.byteAt m i := by
  have hs : t.memSize m = s.memSize m := by cases m <;> simp only [State.memSize, hc]
  unfold State.byteAt
  rw [hs, hd, hm]

theorem State.memRead_congr (h : ∀ j, t.byteAt m j = s.byteAt m j) : t.memRead m i len = s.memRead m i len := by
  simp only [State.memRead, h]

/-! Only the memories' own updates change what a memory reads as. -/

@[simp] theorem State.byteAt_setPhase (p : Phase) : (s.setPhase p).byteAt m i = s.byteAt m i :=
  State.byteAt_congr rfl rfl (by cases m <;> rfl)
@[simp] theorem State.memRead_setPhase (p : Phase) : (s.setPhase p).memRead m i len = s.memRead m i len := by
  simp only [State.memRead, State.byteAt_setPhase]
@[simp] theorem State.byteAt_setChk (v : Checksum) : (s.setChk v).byteAt m i = s.byteAt m i :=
  State.byteAt_congr rfl rfl (by cases m <;> rfl)
@[simp] theorem State.memRead_setChk (v : Checksum) : (s.setChk v).memRead m i len = s.memRead m i len := by
  simp only [State.memRead, State.byteAt_setChk]
@[simp] theorem State.byteAt_setTx (v : Descriptor) : (s.setTx v).byteAt m i = s.byteAt m i :=
  State.byteAt_congr rfl rfl (by cases m <;> rfl)
@[simp] theorem State.memRead_setTx (v : Descriptor) : (s.setTx v).memRead m i len = s.memRead m i len := by
  simp only [State.memRead, State.byteAt_setTx]
@[simp] theorem State.byteAt_setTxFrameLen (v : BitVec 17) : (s.setTxFrameLen v).byteAt m i = s.byteAt m i :=
  State.byteAt_congr rfl rfl (by cases m <;> rfl)
@[simp] theorem State.memRead_setTxFrameLen (v : BitVec 17) : (s.setTxFrameLen v).memRead m i len = s.memRead m i len := by
  simp only [State.memRead, State.byteAt_setTxFrameLen]
@[simp] theorem State.byteAt_setRxCap (v : Half) : (s.setRxCap v).byteAt m i = s.byteAt m i :=
  State.byteAt_congr rfl rfl (by cases m <;> rfl)
@[simp] theorem State.memRead_setRxCap (v : Half) : (s.setRxCap v).memRead m i len = s.memRead m i len := by
  simp only [State.memRead, State.byteAt_setRxCap]
@[simp] theorem State.byteAt_setRx (v : RxRegs) : (s.setRx v).byteAt m i = s.byteAt m i :=
  State.byteAt_congr rfl rfl (by cases m <;> rfl)
@[simp] theorem State.memRead_setRx (v : RxRegs) : (s.setRx v).memRead m i len = s.memRead m i len := by
  simp only [State.memRead, State.byteAt_setRx]
@[simp] theorem State.byteAt_setCodecInt (v : Word) : (s.setCodecInt v).byteAt m i = s.byteAt m i :=
  State.byteAt_congr rfl rfl (by cases m <;> rfl)
@[simp] theorem State.memRead_setCodecInt (v : Word) : (s.setCodecInt v).memRead m i len = s.memRead m i len := by
  simp only [State.memRead, State.byteAt_setCodecInt]
@[simp] theorem State.byteAt_setCodecFloat (v : Word) : (s.setCodecFloat v).byteAt m i = s.byteAt m i :=
  State.byteAt_congr rfl rfl (by cases m <;> rfl)
@[simp] theorem State.memRead_setCodecFloat (v : Word) : (s.setCodecFloat v).memRead m i len = s.memRead m i len := by
  simp only [State.memRead, State.byteAt_setCodecFloat]
@[simp] theorem State.byteAt_setDecPos (v : BitVec 17) : (s.setDecPos v).byteAt m i = s.byteAt m i :=
  State.byteAt_congr rfl rfl (by cases m <;> rfl)
@[simp] theorem State.memRead_setDecPos (v : BitVec 17) : (s.setDecPos v).memRead m i len = s.memRead m i len := by
  simp only [State.memRead, State.byteAt_setDecPos]
@[simp] theorem State.byteAt_setAgenda (v : List Action) : (s.setAgenda v).byteAt m i = s.byteAt m i :=
  State.byteAt_congr rfl rfl (by cases m <;> rfl)
@[simp] theorem State.memRead_setAgenda (v : List Action) : (s.setAgenda v).memRead m i len = s.memRead m i len := by
  simp only [State.memRead, State.byteAt_setAgenda]
@[simp] theorem State.byteAt_setAnswers (v : List RxEvent) : (s.setAnswers v).byteAt m i = s.byteAt m i :=
  State.byteAt_congr rfl rfl (by cases m <;> rfl)
@[simp] theorem State.memRead_setAnswers (v : List RxEvent) : (s.setAnswers v).memRead m i len = s.memRead m i len := by
  simp only [State.memRead, State.byteAt_setAnswers]
@[simp] theorem State.byteAt_setBusData (v : Word) : (s.setBusData v).byteAt m i = s.byteAt m i :=
  State.byteAt_congr rfl rfl (by cases m <;> rfl)
@[simp] theorem State.memRead_setBusData (v : Word) : (s.setBusData v).memRead m i len = s.memRead m i len := by
  simp only [State.memRead, State.byteAt_setBusData]
@[simp] theorem State.byteAt_finish (c : OutcomeCode) : (s.finish c).byteAt m i = s.byteAt m i :=
  State.byteAt_congr rfl rfl (by cases m <;> rfl)
@[simp] theorem State.memRead_finish (c : OutcomeCode) : (s.finish c).memRead m i len = s.memRead m i len := by
  simp only [State.memRead, State.byteAt_finish]
@[simp] theorem State.byteAt_busyFault : (s.busyFault).byteAt m i = s.byteAt m i :=
  State.byteAt_congr rfl rfl (by cases m <;> rfl)
@[simp] theorem State.memRead_busyFault : (s.busyFault).memRead m i len = s.memRead m i len := by
  simp only [State.memRead, State.byteAt_busyFault]

theorem State.memSize_storeBytes : (s.storeBytes n i bs).memSize m = s.memSize m := by cases n <;> cases m <;> rfl

/-- `MemWrite` on one memory, read back from another. -/
theorem State.byteAt_storeBytes_other (h : m ≠ n) : (s.storeBytes n i bs).byteAt m j = s.byteAt m j := by
  refine State.byteAt_congr (State.storeBytes_cfg ..) (State.storeBytes_draw ..) ?_
  cases m <;> cases n <;> first | rfl | exact absurd rfl h

/-- `MemWrite`, read back: the bytes written where they fall inside the memory, the old byte elsewhere. -/
theorem State.byteAt_storeBytes :
    (s.storeBytes m i bs).byteAt m j =
      if i ≤ j ∧ j < i + bs.length ∧ j < s.memSize m then bs.getD (j - i) 0 else s.byteAt m j := by
  have hm : (s.storeBytes m i bs).mem m =
      Memory.writeBytes (Draw.byte s.draw m) (s.memSize m) (s.mem m) i bs := by cases m <;> rfl
  unfold State.byteAt
  rw [State.memSize_storeBytes, State.storeBytes_draw, hm]
  by_cases hj : j < s.memSize m
  · rw [if_pos hj, Memory.read_writeBytes hj]
    by_cases hin : i ≤ j ∧ j < i + bs.length
    · rw [if_pos hin, if_pos ⟨hin.1, hin.2, hj⟩]
    · have hout : ¬ (i ≤ j ∧ j < i + bs.length ∧ j < s.memSize m) := fun h => hin ⟨h.1, h.2.1⟩
      rw [if_neg hin, if_neg hout, if_pos hj]
  · have hout : ¬ (i ≤ j ∧ j < i + bs.length ∧ j < s.memSize m) := fun h => hj h.2.2
    rw [if_neg hj, if_neg hout, if_neg hj]

/-- Outside the bytes written, `MemWrite` changes nothing. -/
theorem State.byteAt_storeBytes_outside (h : j < i ∨ i + bs.length ≤ j) :
    (s.storeBytes n i bs).byteAt m j = s.byteAt m j := by
  by_cases hmn : m = n
  · subst hmn
    have hout : ¬ (i ≤ j ∧ j < i + bs.length ∧ j < s.memSize m) := by omega
    rw [State.byteAt_storeBytes, if_neg hout]
  · exact State.byteAt_storeBytes_other hmn

@[simp] theorem State.memRead_length : (s.memRead m i len).length = len := by simp [State.memRead]

theorem State.byteOf_memRead (h : k < len) : byteOf (s.memRead m i len) k = s.byteAt m (i + k) := by
  simp [byteOf, State.memRead, List.getD_eq_getElem?_getD, h]

/-- `MemWrite` then `MemRead` of the same bytes. -/
theorem State.memRead_storeBytes (h : i + bs.length ≤ s.memSize m) :
    (s.storeBytes m i bs).memRead m i bs.length = bs := by
  refine List.ext_getElem (by simp) fun k hk hk' => ?_
  have hin : i ≤ i + k ∧ i + k < i + bs.length ∧ i + k < s.memSize m := by omega
  simp only [State.memRead, List.getElem_map, List.getElem_range, State.byteAt_storeBytes, if_pos hin]
  simp [hk']

/-- `MemWrite` keeps every memory well formed. -/
theorem State.storeBytes_memoriesWf (h : s.memoriesWf) : (s.storeBytes n i bs).memoriesWf := by
  have hm (m : MemId) (hs : s.memWf m) : (s.storeBytes n i bs).memWf m := by
    by_cases hmn : m = n
    · subst hmn
      have hmem : (s.storeBytes m i bs).mem m =
          Memory.writeBytes (Draw.byte s.draw m) (s.memSize m) (s.mem m) i bs := by cases m <;> rfl
      show Memory.wf _ _ ∧ _
      rw [hmem, State.storeBytes_draw, State.memSize_storeBytes]
      exact ⟨Memory.writeBytes_wf hs.1, Memory.writeBytes_inside hs.2⟩
    · have hmem : (s.storeBytes n i bs).mem m = s.mem m := by
        cases m <;> cases n <;> first | rfl | exact absurd rfl hmn
      show Memory.wf _ _ ∧ _
      rw [hmem, State.storeBytes_draw, State.memSize_storeBytes]
      exact hs
  exact ⟨hm _ h.1, hm _ h.2.1, hm _ h.2.2⟩

/-- The memories are well formed as long as their cells, the configuration and the draw are the same. -/
theorem State.memoriesWf_congr (h : s.memoriesWf) (hc : t.cfg = s.cfg) (hd : t.draw = s.draw)
    (h1 : t.scratch = s.scratch) (h2 : t.txval = s.txval) (h3 : t.rxval = s.rxval) : t.memoriesWf := by
  simpa only [State.memoriesWf, State.memWf, State.mem, State.memSize, hc, hd, h1, h2, h3] using h

end Sys2Proof.Machine
end

