-- ==== Sys2Proof/Laws/Bus.lean ====
section
/-! SUPPORT. Everything a host write other than to CMD can do (10_state.md R23; 20_memory.md R55). -/

namespace Sys2Proof.Machine

open Sys2Proof

variable {s : State}

/-- A host write changes at most the TX_* registers, RX_CAP and TXVAL. -/
theorem State.busWrite_shape (s : State) (offset : Nat) (v : Word) :
    s.busWrite offset v = { s with
      tx    := (s.busWrite offset v).tx
      rxCap := (s.busWrite offset v).rxCap
      txval := (s.busWrite offset v).txval } := by
  unfold State.busWrite
  split
  · unfold State.writeReg
    split <;> rfl
  · split <;> rfl

theorem State.busWrite_memoriesWf (h : s.memoriesWf) (offset : Nat) (v : Word) :
    (s.busWrite offset v).memoriesWf := by
  unfold State.busWrite
  split
  · unfold State.writeReg
    split <;> exact h
  · split
    · exact State.storeBytes_memoriesWf h
    all_goals exact h

/-- A host write leaves the two read-only windows as they are (10_state.md R35, R37). -/
theorem State.byteAt_busWrite {m : MemId} (hm : m ≠ .txval) (offset : Nat) (v : Word) (j : Nat) :
    (s.busWrite offset v).byteAt m j = s.byteAt m j := by
  rw [State.busWrite_shape]
  refine State.byteAt_congr rfl rfl ?_
  cases m <;> first | rfl | exact absurd rfl hm

end Sys2Proof.Machine
end

