-- ==== Sys2Proof/Laws/Checksum.lean ====
section
/-! SUPPORT. The checksum over a longer sequence (40_checksum.md R88). -/

namespace Sys2Proof.Machine

open Sys2Proof

theorem checksum_nil : checksum [] = checksumInit := rfl

/-- One more input byte at the end. -/
theorem checksum_concat (bs : List Byte) (b : Byte) : checksum (bs ++ [b]) = checksumByte (checksum bs) b := by
  simp [checksum]

/-- A span in two parts: the second continues from the first. -/
theorem checksum_append (bs cs : List Byte) : checksum (bs ++ cs) = cs.foldl checksumByte (checksum bs) := by
  simp [checksum]

/-- A ends as its start plus the sum of the bytes, whatever B was. -/
theorem foldl_checksumByte_a (bs : List Byte) (c : Checksum) : (bs.foldl checksumByte c).a = c.a + bs.sum := by
  induction bs generalizing c with
  | nil => simp
  | cons b bs ih =>
    rw [List.foldl_cons, ih, List.sum_cons]
    simp [checksumByte, BitVec.add_assoc]

end Sys2Proof.Machine
end

