-- ==== Sys2Proof/Laws/Decoder.lean ====
section
/-! SUPPORT. What the decoder's operations can do: everything outside the decoder's own state stays, and each receive
step is one of the cases of 42_decoder.md. -/

namespace Sys2Proof.Machine

open Sys2Proof

variable {s t u : State} {ev : RxEvent} {evs : List RxEvent} {b : Byte} {y : List Byte}

/-- The fields that no receive step writes are the same in both states (42_decoder.md R104-R118). -/
structure State.DecoderFrame (s t : State) : Prop where
  chk        : t.chk = s.chk
  tx         : t.tx = s.tx
  txFrameLen : t.txFrameLen = s.txFrameLen
  rxCap      : t.rxCap = s.rxCap
  codecInt   : t.codecInt = s.codecInt
  codecFloat : t.codecFloat = s.codecFloat
  txval      : t.txval = s.txval
  decCap     : t.decCap = s.decCap
  cfg        : t.cfg = s.cfg
  draw       : t.draw = s.draw
  agenda     : t.agenda = s.agenda
  sent       : t.sent = s.sent
  accepted   : t.accepted = s.accepted
  busData    : t.busData = s.busData
  faultBusy  : t.status.faultBusy = s.status.faultBusy
  rxAnswers  : t.rxAnswers = s.rxAnswers

theorem State.DecoderFrame.refl (s : State) : s.DecoderFrame s :=
  ⟨rfl, rfl, rfl, rfl, rfl, rfl, rfl, rfl, rfl, rfl, rfl, rfl, rfl, rfl, rfl, rfl⟩

theorem State.DecoderFrame.trans (h : s.DecoderFrame t) (g : t.DecoderFrame u) : s.DecoderFrame u :=
  ⟨g.chk.trans h.chk, g.tx.trans h.tx, g.txFrameLen.trans h.txFrameLen, g.rxCap.trans h.rxCap,
   g.codecInt.trans h.codecInt, g.codecFloat.trans h.codecFloat, g.txval.trans h.txval, g.decCap.trans h.decCap,
   g.cfg.trans h.cfg, g.draw.trans h.draw, g.agenda.trans h.agenda, g.sent.trans h.sent, g.accepted.trans h.accepted,
   g.busData.trans h.busData, g.faultBusy.trans h.faultBusy, g.rxAnswers.trans h.rxAnswers⟩

theorem finish_decoderFrame (c : OutcomeCode) : s.DecoderFrame (s.finish c) :=
  ⟨rfl, rfl, rfl, rfl, rfl, rfl, rfl, rfl, rfl, rfl, rfl, rfl, rfl, rfl, rfl, rfl⟩

theorem storeFrameByte_decoderFrame : s.DecoderFrame (storeFrameByte b s) :=
  ⟨rfl, rfl, rfl, rfl, rfl, rfl, rfl, rfl, rfl, rfl, rfl, rfl, rfl, rfl, rfl, rfl⟩

theorem deliver_decoderFrame : s.DecoderFrame (deliver y s) := by
  unfold deliver
  split
  · exact finish_decoderFrame _
  · exact ⟨rfl, rfl, rfl, rfl, rfl, rfl, rfl, rfl, rfl, rfl, rfl, rfl, rfl, rfl, rfl, rfl⟩

theorem latchObject_decoderFrame : s.DecoderFrame (latchObject y s) :=
  ⟨rfl, rfl, rfl, rfl, rfl, rfl, rfl, rfl, rfl, rfl, rfl, rfl, rfl, rfl, rfl, rfl⟩

theorem classify_decoderFrame : s.DecoderFrame (classify y s) := by
  refine State.DecoderFrame.trans (t := latchBody y s)
    ⟨rfl, rfl, rfl, rfl, rfl, rfl, rfl, rfl, rfl, rfl, rfl, rfl, rfl, rfl, rfl, rfl⟩ ?_
  unfold classify classifyLatched
  repeat' split
  all_goals first
    | exact finish_decoderFrame _
    | exact latchObject_decoderFrame.trans deliver_decoderFrame
    | exact ⟨rfl, rfl, rfl, rfl, rfl, rfl, rfl, rfl, rfl, rfl, rfl, rfl, rfl, rfl, rfl, rfl⟩

theorem validateBody_decoderFrame : s.DecoderFrame (validateBody s) := by
  unfold validateBody
  split
  · exact classify_decoderFrame
  · exact finish_decoderFrame _

theorem acceptHeader_decoderFrame : s.DecoderFrame (acceptHeader s) := by
  unfold acceptHeader
  split <;> exact ⟨rfl, rfl, rfl, rfl, rfl, rfl, rfl, rfl, rfl, rfl, rfl, rfl, rfl, rfl, rfl, rfl⟩

theorem validateHeader_decoderFrame : s.DecoderFrame (validateHeader s) := by
  unfold validateHeader
  split
  · exact State.DecoderFrame.trans (t := latchHeader (s.memRead .scratch 1 11) s)
      ⟨rfl, rfl, rfl, rfl, rfl, rfl, rfl, rfl, rfl, rfl, rfl, rfl, rfl, rfl, rfl, rfl⟩ acceptHeader_decoderFrame
  · exact finish_decoderFrame _

theorem seek_decoderFrame : s.DecoderFrame (seek ev s) := by
  cases ev with
  | byte b =>
    unfold seek
    dsimp only
    split
    · exact ⟨rfl, rfl, rfl, rfl, rfl, rfl, rfl, rfl, rfl, rfl, rfl, rfl, rfl, rfl, rfl, rfl⟩
    · exact State.DecoderFrame.refl s
  | timeout => exact finish_decoderFrame _
  | ioFault => exact finish_decoderFrame _

theorem header_decoderFrame : s.DecoderFrame (header ev s) := by
  cases ev with
  | byte b =>
    unfold header
    dsimp only
    split
    · exact storeFrameByte_decoderFrame.trans validateHeader_decoderFrame
    · exact storeFrameByte_decoderFrame
  | timeout => exact finish_decoderFrame _
  | ioFault => exact finish_decoderFrame _

theorem body_decoderFrame : s.DecoderFrame (body ev s) := by
  cases ev with
  | byte b =>
    unfold body
    dsimp only
    split
    · exact storeFrameByte_decoderFrame.trans validateBody_decoderFrame
    · exact storeFrameByte_decoderFrame
  | timeout => exact finish_decoderFrame _
  | ioFault => exact finish_decoderFrame _

/-- Everything a receive step can be (42_decoder.md R106). -/
theorem receiveStep_cases (h : receiveStep ev s = .next t) :
    s.status.phase = .seekStart ∧ t = seek ev s ∨ s.status.phase = .readHeader ∧ t = header ev s ∨
      s.status.phase = .readBody ∧ t = body ev s := by
  unfold receiveStep at h
  split at h <;> simp_all

theorem receiveStep_decoderFrame (h : receiveStep ev s = .next t) : s.DecoderFrame t := by
  rcases receiveStep_cases h with ⟨-, rfl⟩ | ⟨-, rfl⟩ | ⟨-, rfl⟩
  · exact seek_decoderFrame
  · exact header_decoderFrame
  · exact body_decoderFrame

/-- Everything the block's turn can be: it waits, or it takes one event (42_decoder.md R106). -/
theorem receiveTurn_cases (h : receiveTurn s = .next t) :
    t = s ∧ (s.status.busy = false ∨ s.rxAnswers = []) ∨
      ∃ ev evs, s.status.busy = true ∧ s.rxAnswers = ev :: evs ∧ receiveStep ev (s.setAnswers evs) = .next t := by
  unfold receiveTurn at h
  split at h
  · split at h
    · exact .inl ⟨by simpa using h.symm, .inr ‹_›⟩
    · exact .inr ⟨_, _, ‹_›, ‹_›, h⟩
  · rename_i hb
    exact .inl ⟨by simpa using h.symm, .inl (by simpa using hb)⟩

/-- What the block's turn keeps: all but the receive transport's answers is in the decoder's frame. -/
theorem receiveTurn_frame (h : receiveTurn s = .next t) :
    (s.setAnswers t.rxAnswers).DecoderFrame t := by
  rcases receiveTurn_cases h with ⟨rfl, -⟩ | ⟨ev, evs, -, -, h⟩
  · exact State.DecoderFrame.refl _
  · have hf := receiveStep_decoderFrame h
    have ha : t.rxAnswers = evs := hf.rxAnswers
    rw [ha]
    exact hf

/-! What a validated body comes to. -/

/-- Everything CLASSIFY can be (42_decoder.md R114-R117): an end without a value, or the delivery of a property response. -/
theorem classify_cases (y : List Byte) (s : State) :
    (¬ propertyResponse y ∧ ∃ r c, classify y s = (s.setRx r).finish c ∧ c ≠ .ok ∧ c ≠ .none ∧ c ≠ .portWriteFailed ∧
      r.valueLen = s.rx.valueLen) ∨
    propertyResponse y ∧ classify y s = deliver y (latchObject y (latchBody y s)) := by
  unfold classify classifyLatched propertyResponse
  split
  · refine .inl ⟨fun h => by omega, _, .invalidFrame, rfl, nofun, nofun, nofun, rfl⟩
  · split
    · rename_i h
      unfold isApplicationError at h
      split
      · exact .inl ⟨fun hp => absurd (h.symm.trans hp.2.1) nofun, _, .applicationError, rfl, nofun, nofun, nofun, rfl⟩
      · exact .inl ⟨fun hp => absurd (h.symm.trans hp.2.1) nofun, _, .invalidFrame, rfl, nofun, nofun, nofun, rfl⟩
    · split
      · rename_i h
        unfold isResponse at h
        refine .inl ⟨fun hp => ?_, _, .foreignRequest, rfl, nofun, nofun, nofun, rfl⟩
        simp only [hp.2.2.1, Bool.not_true, Bool.false_eq_true] at h
      · split
        · rename_i h
          unfold isPropertyService at h
          refine .inl ⟨fun hp => ?_, _, .invalidFrame, rfl, nofun, nofun, nofun, rfl⟩
          rcases hp.2.2.2 with hs | hs <;> simp [hs] at h
        · split
          · exact .inl ⟨fun hp => by omega, _, .invalidFrame, rfl, nofun, nofun, nofun, rfl⟩
          · rename_i h1 h2 h3 h4
            unfold isApplicationError at h1
            unfold isResponse at h2
            unfold isPropertyService at h3
            refine .inr ⟨⟨by omega, by simpa using h1, by simpa using h2, Decidable.or_iff_not_imp_left.2 (by simpa using h3)⟩, rfl⟩

/-! Positions and bytes. -/

@[simp] theorem byteAt_scratch_classify {j : Nat} : (classify y s).byteAt .scratch j = s.byteAt .scratch j := by
  rcases classify_cases y s with ⟨-, r, c, h, -⟩ | ⟨-, h⟩
  · rw [h, State.byteAt_finish, State.byteAt_setRx]
  · rw [h]
    unfold deliver
    split
    · rw [State.byteAt_finish]
      exact State.byteAt_congr rfl rfl rfl
    · rw [State.byteAt_finish, State.byteAt_setRx, State.byteAt_storeBytes_other (by decide)]
      exact State.byteAt_congr rfl rfl rfl

@[simp] theorem byteAt_scratch_validateBody {j : Nat} : (validateBody s).byteAt .scratch j = s.byteAt .scratch j := by
  unfold validateBody
  split
  · exact byteAt_scratch_classify
  · exact State.byteAt_finish _

@[simp] theorem byteAt_validateHeader {m : MemId} {j : Nat} : (validateHeader s).byteAt m j = s.byteAt m j := by
  unfold validateHeader acceptHeader
  split
  · split
    · rw [State.byteAt_finish, latchHeader, State.byteAt_setRx]
    · rw [State.byteAt_setPhase, latchHeader, State.byteAt_setRx]
  · exact State.byteAt_finish _

theorem storeFrameByte_decPos (h : s.decPos.toNat < 131071) :
    (storeFrameByte b s).decPos.toNat = s.decPos.toNat + 1 := by
  have hp : (storeFrameByte b s).decPos = s.decPos + 1 := rfl
  rw [hp, BitVec.toNat_add, show (1 : BitVec 17).toNat = 1 from rfl]
  omega

/-- What storing a received byte does to SCRATCH. -/
theorem byteAt_storeFrameByte {j : Nat} (h : s.decPos.toNat < s.cfg.frameBufCap) :
    (storeFrameByte b s).byteAt .scratch j = if j = s.decPos.toNat then b else s.byteAt .scratch j := by
  have hb : (storeFrameByte b s).byteAt .scratch j = (s.storeBytes .scratch s.decPos.toNat [b]).byteAt .scratch j :=
    State.byteAt_congr rfl rfl rfl
  have hs : s.memSize .scratch = s.cfg.frameBufCap := rfl
  rw [hb, State.byteAt_storeBytes, hs]
  by_cases hj : j = s.decPos.toNat
  · rw [if_pos hj, if_pos (by simp only [List.length_singleton]; omega)]
    simp [hj]
  · rw [if_neg hj, if_neg (by simp only [List.length_singleton]; omega)]

end Sys2Proof.Machine
end

