-- ==== Sys2Proof/Laws/Independence.lean ====
section
/-! SUPPORT. The decoder neither reads nor writes CHK, TX_*, RX_CAP and TXVAL (40_checksum.md R95; 60_exceptions.md R147):
each of its operations commutes with a change of them. -/

namespace Sys2Proof.Machine

open Sys2Proof

/-- The state with CHK, the TX_* registers, RX_CAP and TXVAL replaced. -/
def State.withHostSide (s : State) (c : Checksum) (d : Descriptor) (r : Half) (m : Memory) : State :=
  { s with chk := c, tx := d, rxCap := r, txval := m }

variable (s : State) (c : Checksum) (d : Descriptor) (r : Half) (m : Memory) (y : List Byte) (b : Byte) (ev : RxEvent)

theorem byteAt_scratch_withHostSide (j : Nat) :
    (s.withHostSide c d r m).byteAt .scratch j = s.byteAt .scratch j := State.byteAt_congr rfl rfl rfl

theorem memRead_scratch_withHostSide (i n : Nat) :
    (s.withHostSide c d r m).memRead .scratch i n = s.memRead .scratch i n :=
  State.memRead_congr (byteAt_scratch_withHostSide s c d r m)

theorem deliver_withHostSide : deliver y (s.withHostSide c d r m) = (deliver y s).withHostSide c d r m := by
  unfold deliver
  rw [show (s.withHostSide c d r m).decCap = s.decCap from rfl]
  split <;> rfl

theorem classify_withHostSide : classify y (s.withHostSide c d r m) = (classify y s).withHostSide c d r m := by
  unfold classify
  rw [show latchBody y (s.withHostSide c d r m) = (latchBody y s).withHostSide c d r m from rfl]
  generalize latchBody y s = u
  have hd := deliver_withHostSide (latchObject y u) c d r m y
  unfold classifyLatched
  repeat' split
  all_goals first
    | exact hd
    | rfl

theorem validateBody_withHostSide :
    validateBody (s.withHostSide c d r m) = (validateBody s).withHostSide c d r m := by
  unfold validateBody
  rw [show (s.withHostSide c d r m).rx = s.rx from rfl, memRead_scratch_withHostSide, byteAt_scratch_withHostSide,
    byteAt_scratch_withHostSide]
  split
  · exact classify_withHostSide ..
  · rfl

theorem acceptHeader_withHostSide :
    acceptHeader (s.withHostSide c d r m) = (acceptHeader s).withHostSide c d r m := by
  unfold acceptHeader
  rw [show (s.withHostSide c d r m).rx = s.rx from rfl, show (s.withHostSide c d r m).cfg = s.cfg from rfl]
  split <;> rfl

theorem validateHeader_withHostSide :
    validateHeader (s.withHostSide c d r m) = (validateHeader s).withHostSide c d r m := by
  unfold validateHeader
  rw [memRead_scratch_withHostSide, byteAt_scratch_withHostSide, byteAt_scratch_withHostSide]
  split
  · exact acceptHeader_withHostSide (latchHeader (s.memRead .scratch 1 11) s) c d r m
  · rfl

theorem seek_withHostSide : seek ev (s.withHostSide c d r m) = (seek ev s).withHostSide c d r m := by
  cases ev with
  | byte b =>
    unfold seek
    dsimp only
    split <;> rfl
  | timeout => rfl
  | ioFault => rfl

theorem header_withHostSide : header ev (s.withHostSide c d r m) = (header ev s).withHostSide c d r m := by
  cases ev with
  | byte b =>
    have hv := validateHeader_withHostSide (storeFrameByte b s) c d r m
    have hs : storeFrameByte b (s.withHostSide c d r m) = (storeFrameByte b s).withHostSide c d r m := rfl
    unfold header
    dsimp only
    rw [hs, show ((storeFrameByte b s).withHostSide c d r m).decPos = (storeFrameByte b s).decPos from rfl, hv]
    split <;> rfl
  | timeout => rfl
  | ioFault => rfl

theorem body_withHostSide : body ev (s.withHostSide c d r m) = (body ev s).withHostSide c d r m := by
  cases ev with
  | byte b =>
    have hv := validateBody_withHostSide (storeFrameByte b s) c d r m
    have hs : storeFrameByte b (s.withHostSide c d r m) = (storeFrameByte b s).withHostSide c d r m := rfl
    unfold body
    dsimp only
    rw [hs, show ((storeFrameByte b s).withHostSide c d r m).decPos = (storeFrameByte b s).decPos from rfl,
      show (s.withHostSide c d r m).rx = s.rx from rfl, hv]
    split <;> rfl
  | timeout => rfl
  | ioFault => rfl

end Sys2Proof.Machine
end

