-- ==== Sys2Proof/Laws/Operands.lean ====
section
/-! SUPPORT. Reading an integer back from its little-endian bytes (00_scope.md R11). -/

namespace Sys2Proof.Machine

open Sys2Proof

theorem bytesLe_length {w : Nat} (v : BitVec w) (n : Nat) : (bytesLe v n).length = n := by
  simp [bytesLe]

theorem bytesLe_two {w : Nat} (v : BitVec w) : bytesLe v 2 = [v.extractLsb' 0 8, v.extractLsb' 8 8] := rfl

theorem bytesLe_four {w : Nat} (v : BitVec w) :
    bytesLe v 4 = [v.extractLsb' 0 8, v.extractLsb' 8 8, v.extractLsb' 16 8, v.extractLsb' 24 8] := rfl

theorem byteOf_cons_zero (b : Byte) (bs : List Byte) : byteOf (b :: bs) 0 = b := rfl

theorem byteOf_cons_succ (b : Byte) (bs : List Byte) (i : Nat) : byteOf (b :: bs) (i + 1) = byteOf bs i := rfl

theorem byteOf_append_left (s t : List Byte) (i : Nat) (h : i < s.length) : byteOf (s ++ t) i = byteOf s i := by
  simp [byteOf, List.getD_eq_getElem?_getD, List.getElem?_append_left h]

theorem byteOf_append_right (s t : List Byte) (i : Nat) : byteOf (s ++ t) (s.length + i) = byteOf t i := by
  simp [byteOf, List.getD_eq_getElem?_getD, List.getElem?_append_right]

/-- The two bytes of a half put together again. -/
theorem half_of_bytes (v : Half) :
    (v.extractLsb' 0 8).zeroExtend 16 ||| (v.extractLsb' 8 8).zeroExtend 16 <<< 8 = v := by
  refine BitVec.eq_of_getLsbD_eq fun i hi => ?_
  interval_cases i <;> simp

/-- The four bytes of a word put together again. -/
theorem word_of_bytes (v : Word) :
    (v.extractLsb' 0 8).zeroExtend 32 ||| (v.extractLsb' 8 8).zeroExtend 32 <<< 8 |||
      (v.extractLsb' 16 8).zeroExtend 32 <<< 16 ||| (v.extractLsb' 24 8).zeroExtend 32 <<< 24 = v := by
  refine BitVec.eq_of_getLsbD_eq fun i hi => ?_
  interval_cases i <;> simp

/-- `le16(bytes_le(v, 2), 0) = v`, also inside a longer sequence. -/
theorem le16_bytesLe (s t : List Byte) (v : Half) : le16 (s ++ bytesLe v 2 ++ t) s.length = v := by
  have h (i : Nat) (hi : i < 2) :
      byteOf (s ++ bytesLe v 2 ++ t) (s.length + i) = byteOf (bytesLe v 2) i := by
    rw [List.append_assoc, byteOf_append_right, byteOf_append_left _ _ _ (by rw [bytesLe_length]; exact hi)]
  have h0 := h 0 (by omega)
  have h1 := h 1 (by omega)
  rw [Nat.add_zero] at h0
  rw [le16, h0, h1]
  exact half_of_bytes v

/-- `le32(bytes_le(v, 4), 0) = v`, also inside a longer sequence. -/
theorem le32_bytesLe (s t : List Byte) (v : Word) : le32 (s ++ bytesLe v 4 ++ t) s.length = v := by
  have h (i : Nat) (hi : i < 4) :
      byteOf (s ++ bytesLe v 4 ++ t) (s.length + i) = byteOf (bytesLe v 4) i := by
    rw [List.append_assoc, byteOf_append_right, byteOf_append_left _ _ _ (by rw [bytesLe_length]; exact hi)]
  have h0 := h 0 (by omega)
  have h1 := h 1 (by omega)
  have h2 := h 2 (by omega)
  have h3 := h 3 (by omega)
  rw [Nat.add_zero] at h0
  rw [le32, h0, h1, h2, h3]
  exact word_of_bytes v

end Sys2Proof.Machine
end

