-- ==== Sys2Proof/Laws/PerInstr.lean ====
section
/-! SUPPORT. Facts about each command as syntax, one lemma per constructor. -/

namespace Sys2Proof.Laws.OpcodeRow

open Sys2Proof

/-- The command's word matches its own row of the opcode table and no other command's row (30_encoding.md R69). -/
def Statement (i : Instr) : Prop :=
  encode i &&& (opcodeRow i).2 = (opcodeRow i).1 ∧
    ∀ j : Instr, encode i &&& (opcodeRow j).2 = (opcodeRow j).1 → opcodeRow j = opcodeRow i

theorem chkInit : Statement .chkInit :=
  ⟨by decide, fun j h => by cases j <;> first | rfl | exact absurd h (by simp [encode, opcodeRow])⟩

/-- The bits of a CHK_BYTE word: OP 2 below, DATA in [15:8], 0 elsewhere (30_encoding.md R65). -/
theorem encode_chkByte_getLsbD (b : Byte) (k : Nat) :
    (Sys2Proof.encode (.chkByte b)).getLsbD k =
      if k < 8 then (0x02#8).getLsbD k else if k < 16 then b.getLsbD (k - 8) else false := by
  simp only [Sys2Proof.encode, BitVec.getLsbD_append]
  split
  · rfl
  · by_cases hk : k < 16
    · simp [hk, show k - 8 < 8 by omega]
    · simp [hk, show ¬ k - 8 < 8 by omega]

theorem chkByte (b : Byte) : Statement (.chkByte b) := by
  constructor
  · refine BitVec.eq_of_getLsbD_eq fun k hk => ?_
    rw [BitVec.getLsbD_and, encode_chkByte_getLsbD]
    simp only [opcodeRow]
    interval_cases k <;> simp
  · intro j h
    cases j with
    | chkByte c => rfl
    | chkInit | encode | decode | asInt | asFloat =>
      have h0 := congrArg (fun v : Word => (v.getLsbD 0, v.getLsbD 1, v.getLsbD 2)) h
      simp only [BitVec.getLsbD_and, encode_chkByte_getLsbD, opcodeRow] at h0
      exact absurd h0 (by simp)

theorem encode : Statement .encode :=
  ⟨by decide, fun j h => by cases j <;> first | rfl | exact absurd h (by simp [Sys2Proof.encode, opcodeRow])⟩

theorem decode : Statement .decode :=
  ⟨by decide, fun j h => by cases j <;> first | rfl | exact absurd h (by simp [Sys2Proof.encode, opcodeRow])⟩

theorem asInt : Statement .asInt :=
  ⟨by decide, fun j h => by cases j <;> first | rfl | exact absurd h (by simp [Sys2Proof.encode, opcodeRow])⟩

theorem asFloat : Statement .asFloat :=
  ⟨by decide, fun j h => by cases j <;> first | rfl | exact absurd h (by simp [Sys2Proof.encode, opcodeRow])⟩

end Sys2Proof.Laws.OpcodeRow
end

