-- ==== Sys2Proof/Laws/Step.lean ====
section
/-! SUPPORT. Everything one step can be, said once: which agent acted and what it did. -/

namespace Sys2Proof.Machine

open Sys2Proof

variable {s t : State} {i : Instr} {w : Word}

theorem regAt_eq_some {n : Nat} {r : Reg} (h : regAt n = some r) : n = r.offset := by
  have h := List.find?_some h
  exact (beq_iff_eq.1 h).symm

theorem regAt_cmd {o : BitVec 20} : regAt o.toNat = some .cmd ↔ o = 0x00000#20 := by
  constructor
  · intro h
    have hz : o.toNat = 0 := regAt_eq_some h
    exact BitVec.eq_of_toNat_eq (by simpa using hz)
  · rintro rfl
    decide

/-- A command issued while no DECODE runs. -/
theorem issue_idle {f : State → State} (h : s.status.busy = false) : issue f s = f s := by simp [issue, h]

/-- A command issued while a DECODE runs is the busy fault (60_exceptions.md R146). -/
theorem issue_busy {f : State → State} (h : s.status.busy = true) : issue f s = s.busyFault := by simp [issue, h]

/-- Every command answers a next state. -/
theorem exec_next (i : Instr) (s : State) : ∃ t, exec i s = .next t := by
  cases i <;> exact ⟨_, rfl⟩

/-- What a command does while no DECODE runs, by its name. -/
theorem exec_idle (h : s.status.busy = false) :
    exec i s = .next (match i with
      | .chkInit => chkInit s | .chkByte b => chkByte b s | .encode => encodeFrame s
      | .decode => decodeStart s | .asInt => convertInt s | .asFloat => convertFloat s) := by
  cases i <;>
    simp only [exec, execChkInit, execChkByte, execEncode, execDecode, execAsInt, execAsFloat, issue_idle h]

/-- While a DECODE runs every command is the busy fault. -/
theorem exec_busy (h : s.status.busy = true) : exec i s = .next s.busyFault := by
  cases i <;>
    simp only [exec, execChkInit, execChkByte, execEncode, execDecode, execAsInt, execAsFloat, issue_busy h]

/-- Everything a CMD write can be (30_encoding.md R71). -/
theorem commandWrite_cases (h : commandWrite w s = .next t) :
    s.status.busy = true ∧ t = s.busyFault ∨
      s.status.busy = false ∧ decodeWord w = none ∧ t = illegalCommand s ∨
      ∃ i, s.status.busy = false ∧ decodeWord w = some i ∧ exec i s = .next t := by
  unfold commandWrite dispatchCommand at h
  split at h
  · exact .inl ⟨‹_›, by simpa using h.symm⟩
  · rename_i hb
    have hb : s.status.busy = false := by simpa using hb
    split at h
    · exact .inr (.inl ⟨hb, ‹_›, by simpa using h.symm⟩)
    · exact .inr (.inr ⟨_, hb, ‹_›, h⟩)

/-- Everything a step that answers a next state can be. -/
theorem step_cases (h : step s = .next t) :
    (∃ rest, s.atTurn rest ∧ receiveTurn (s.setAgenda rest) = .next t) ∨
    (∃ e rest, s.agenda = .arrive e :: rest ∧ t = (s.setAgenda rest).setAnswers (s.rxAnswers ++ [e])) ∨
    (∃ bs k rest, s.agenda = .transmit bs k :: rest ∧ t = transmitWrite bs k (s.setAgenda rest)) ∨
    (∃ rest, s.agenda = .reset :: rest ∧ t = State.platformReset (s.setAgenda rest)) ∨
    (∃ o rest, s.agenda = .host (.read o 4) :: rest ∧ o.toNat % 4 = 0 ∧
      t = (s.setAgenda rest).setBusData (s.busRead o.toNat)) ∨
    (∃ o v rest, s.agenda = .host (.write o 4 v) :: rest ∧ o.toNat % 4 = 0 ∧ o ≠ 0x00000#20 ∧
      t = State.busWrite (s.setAgenda rest) o.toNat v) ∨
    (∃ v rest, s.atCmdWrite v rest ∧ commandWrite v (s.setAgenda rest) = .next t) := by
  unfold step turn at h
  split at h
  · rename_i ha
    refine .inl ⟨[], .inl ⟨ha, rfl⟩, ?_⟩
    rw [← ha]
    exact h
  · rename_i a rest ha
    cases a with
    | receive => exact .inl ⟨rest, .inr ha, h⟩
    | arrive e =>
      simp only [act, Host.Outcome.next.injEq] at h
      exact .inr (.inl ⟨e, rest, ha, h.symm⟩)
    | transmit bs k =>
      simp only [act, Host.Outcome.next.injEq] at h
      exact .inr (.inr (.inl ⟨bs, k, rest, ha, h.symm⟩))
    | reset =>
      simp only [act, Host.Outcome.next.injEq] at h
      exact .inr (.inr (.inr (.inl ⟨rest, ha, h.symm⟩)))
    | host x =>
      simp only [act, hostAccess] at h
      split at h
      · exact absurd h (by simp)
      · split at h
        · exact absurd h (by simp)
        · rename_i hw hal
          simp only [Access.isWord, Access.aligned, Bool.not_eq_true', decide_eq_false_iff_not, not_not] at hw hal
          cases x with
          | read o n =>
            simp only [Access.bytes] at hw
            subst hw
            simp only [Host.Outcome.next.injEq] at h
            exact .inr (.inr (.inr (.inr (.inl ⟨o, rest, ha, hal, h.symm⟩))))
          | write o n v =>
            simp only [Access.bytes] at hw
            subst hw
            dsimp only at h
            split at h
            · rename_i hr
              obtain rfl := regAt_cmd.1 hr
              exact .inr (.inr (.inr (.inr (.inr (.inr ⟨v, rest, ha, h⟩)))))
            · rename_i hr
              simp only [Host.Outcome.next.injEq] at h
              exact .inr (.inr (.inr (.inr (.inr (.inl
                ⟨o, v, rest, ha, hal, fun ho => hr (regAt_cmd.2 ho), h.symm⟩)))))

/-- A step at a CMD write. -/
theorem step_cmdWrite {rest : List Action} (h : s.atCmdWrite w rest) :
    step s = commandWrite w (s.setAgenda rest) := by
  unfold step turn
  rw [h]
  rfl

/-- A step at the block's turn. -/
theorem step_atTurn {rest : List Action} (h : s.atTurn rest) : step s = receiveTurn (s.setAgenda rest) := by
  unfold step turn
  rcases h with ⟨ha, rfl⟩ | ha
  · simp only [ha]
    rw [State.setAgenda, ← ha]
  · simp only [ha, act]

/-- A step at which the running DECODE receives an event. -/
theorem step_receives {ev : RxEvent} {evs : List RxEvent} {rest : List Action} (h : s.receives ev evs rest) :
    step s = receiveStep ev ((s.setAgenda rest).setAnswers evs) := by
  rw [step_atTurn h.1]
  simp only [receiveTurn, State.setAgenda_status, State.setAgenda_rxAnswers, h.2.1, h.2.2, if_true]

end Sys2Proof.Machine
end

