-- ==== Sys2Proof/Tests/Slice0.lean ====
section
/-! SUPPORT. The model's own tests, and for every statement with hypotheses a state that meets them. Expected values are
those of spec/95_test_vectors.md, under its identifiers, and of the encodings of 30_encoding.md. -/

namespace Sys2Proof.Tests

open Sys2Proof Sys2Proof.Machine

/-! ## Small states -/

/-- The test configuration of 00_scope.md R8 (FRAME_BUF_CAP = 256, RXVAL_BYTES = 64), right after a reset at which every
memory byte came up as 0xCC. -/
def idle : State := State.resetWith ⟨230, 64⟩ ⟨0, some 0xCC⟩

/-- The host's next action is a CMD write of `w`. -/
def issuing (w : Word) (s : State) : State := s.setAgenda [.host (.write 0x00000#20 4 w)]

/-- A DECODE in `phase` that has stored `bytes`, with `cap` latched and `events` coming. -/
def running (phase : Phase) (bytes : List Byte) (cap : Half) (events : List RxEvent) : State :=
  { idle.storeBytes .scratch 0 bytes with
    status    := { busy := true, phase := phase, outcome := .none, faultBusy := false }
    decPos    := BitVec.ofNat 17 bytes.length
    decCap    := cap
    rxAnswers := events }

/-- The header of the responses of V-DEC-2 to V-DEC-13: flags 0, from 101 to 1, body_length `len`. -/
def responseHeader (len : Half) : List Byte := headerBytes 0x00 101#32 1#32 len

/-- A response frame without its last byte: V-DEC-2 to V-DEC-13 up to their last byte. -/
def frameButLast (body : List Byte) : List Byte :=
  (frameOf (responseHeader (BitVec.ofNat 16 body.length)) body).dropLast

/-- A DECODE in READ_BODY whose frame carries `body` and lacks its last byte, which comes next. -/
def lastByteOf (body : List Byte) (cap : Half) : State :=
  let s := running .readBody (frameButLast body) cap [.byte (checksum body).b]
  s.setRx { RxRegs.zero with src := 101, dest := 1, bodyLen := BitVec.ofNat 16 body.length }

/-- The descriptor of V-ENC-2. -/
def descriptor : Descriptor :=
  { dest := 101, service := 2, objType := 2, objId := 1107, propId := 5, valueLen := 4 }

/-- The start state of V-ENC-2: its descriptor and value bytes. -/
def describing : State := (idle.setTx descriptor).storeBytes .txval 0 [0x00, 0x00, 0x80, 0x3F]

/-- A value delivered to RXVAL, as the vectors of section 5 start. -/
def holding (value : List Byte) : State :=
  (idle.storeBytes .rxval 0 value).setRx { RxRegs.zero with valueLen := BitVec.ofNat 16 value.length }

/-- The body of V-DEC-3 (Scenario C). -/
def body230 : List Byte := [0x02, 0x01, 0x01, 0x00, 0xCF, 0x0B, 0x00, 0x00, 0x01, 0x00, 0x00, 0x80, 0x66, 0x43]

/-- The state a step answers, for a test that reads one field of it. -/
def after (o : Host.Outcome State Fault Refusal) : State :=
  match o with
  | .next t    => t
  | .fault _   => idle
  | .refused _ => idle

/-! ## Well-formedness: each check refuses an ill-formed term -/

theorem test_access_wellformed : (Access.read 0x00004#20 4).wf = true := by decide

theorem test_access_two_bytes_illformed :
    (Access.read 0x00004#20 2).isWord = false ∧ (Access.read 0x00004#20 2).wf = false := by decide

theorem test_access_misaligned_illformed :
    (Access.write 0x40002#20 4 0#32).aligned = false ∧ (Access.write 0x40002#20 4 0#32).wf = false := by decide

/-- V-CK-20: OP 0, 7 and 15. -/
theorem test_op_without_command_illegal :
    opIsCommand 0x00000000#32 = false ∧ opIsCommand 0x00000007#32 = false ∧ opIsCommand 0x0000000F#32 = false ∧
      legal 0x00000000#32 = false := by decide

/-- V-CK-20: bit 4 set, bit 16 set. -/
theorem test_reserved_bit_illegal :
    reservedAreZero 0x00000012#32 = false ∧ reservedAreZero 0x00010002#32 = false ∧ legal 0x00000012#32 = false := by
  decide

/-- V-CK-19: DATA = 1 with OP = 1. -/
theorem test_unused_data_illegal : dataIsUsed 0x00000101#32 = false ∧ legal 0x00000101#32 = false := by decide

/-- Every command is well formed; what it can be built from is its constructor and a byte. -/
theorem test_commands_wellformed : Instr.wf (.chkByte 0xFF) = true ∧ Instr.wf .asFloat = true := by decide

/-! ## Decoding, the words written out from 30_encoding.md R65 and R69 -/

theorem test_decode_chk_init : decodeWord 0b00000000000000000000000000000001#32 = some .chkInit := by decide

theorem test_decode_chk_byte : decodeWord 0b00000000000000001010010100000010#32 = some (.chkByte 0xA5) := by decide

theorem test_decode_encode : decodeWord 0b00000000000000000000000000000011#32 = some .encode := by decide

theorem test_decode_decode : decodeWord 0b00000000000000000000000000000100#32 = some .decode := by decide

theorem test_decode_as_int : decodeWord 0b00000000000000000000000000000101#32 = some .asInt := by decide

theorem test_decode_as_float : decodeWord 0b00000000000000000000000000000110#32 = some .asFloat := by decide

/-- V-CK-19 and V-CK-20, by the names of the three conditions of R66. -/
theorem test_decode_rejects_by_name :
    decode 0x00000000#32 = .error .opcode ∧ decode 0x0000000F#32 = .error .opcode ∧
      decode 0x00000012#32 = .error .reservedBits ∧ decode 0x00010002#32 = .error .reservedBits ∧
      decode 0x00000101#32 = .error .dataNotZero := by decide

theorem test_encode_chk_byte : encode (.chkByte 0xFF) = 0x0000FF02#32 := by decide

/-- A shorter word, a longer one, and a number that does not fit the word are no command word (R68). -/
theorem test_table_word_length : decodeTableWord 32 0x1 = some .chkInit ∧ decodeTableWord 16 0x1 = none ∧
    decodeTableWord 31 0x1 = none ∧ decodeTableWord 40 0x1 = none ∧ decodeTableWord 32 0x100000001 = none := by decide

/-! ## One command, one step -/

/-- V-CK-17. -/
theorem test_chk_init :
    (after (step (issuing 0x00000001#32 (idle.setChk ⟨0x2B, 0x1A⟩)))).busRead 0x008 = 0x000000FF#32 ∧
      (after (step (issuing 0x00000001#32 (idle.setChk ⟨0x2B, 0x1A⟩)))).busRead 0x004 = 0x00000100#32 := by
  decide +kernel

/-- V-CK-16 and V-CK-21. -/
theorem test_chk_byte :
    (after (step (issuing 0x00000102#32 idle))).busRead 0x008 = 0x00000000#32 ∧
      (after (step (issuing 0x0000FF02#32 (idle.setChk ⟨0x00, 0x00⟩)))).busRead 0x008 = 0x0000FFFF#32 := by decide +kernel

/-- V-ENC-2: the whole frame. -/
theorem test_encode :
    (after (step (issuing 0x00000003#32 describing))).memRead .scratch 0 31 =
      [0xAA, 0x00, 0x01, 0x00, 0x00, 0x00, 0x65, 0x00, 0x00, 0x00, 0x0E, 0x00, 0x73, 0x79, 0x00, 0x02, 0x02, 0x00, 0x53,
       0x04, 0x00, 0x00, 0x05, 0x00, 0x00, 0x00, 0x80, 0x3F, 0x1E, 0xE3, 0xCC] := by decide +kernel

/-- V-ENC-4: one byte too many. -/
theorem test_encode_too_long :
    (after (step (issuing 0x00000003#32 (idle.setTx { descriptor with valueLen := 231 })))).status =
      { busy := false, phase := .idle, outcome := .bufferTooSmall, faultBusy := false } := by decide +kernel

/-- V-PRG-3's start, and V-DEC-25: RX_CAP = 65. -/
theorem test_decode_start :
    (after (step (issuing 0x00000004#32 (idle.setRxCap 8)))).busRead 0x004 = 0x00000011#32 ∧
      (after (step (issuing 0x00000004#32 (idle.setRxCap 65)))).busRead 0x004 = 0x00000A00#32 := by decide +kernel

/-- The last byte of V-DEC-3's frame, 35: OK, the value and its terminating zero. -/
theorem test_decode_last_byte :
    (after (step (lastByteOf body230 8))).memRead .rxval 0 6 = [0x00, 0x80, 0x66, 0x43, 0x00, 0xCC] ∧
      (after (step (lastByteOf body230 8))).busRead 0x05C = 3023#32 ∧
      (after (step (lastByteOf body230 8))).busRead 0x004 = 0x00000100#32 := by decide +kernel

/-- V-COD-3 and V-COD-6. -/
theorem test_as_int :
    (after (step (issuing 0x00000005#32 (holding [0x34, 0x12])))).codecInt = 0x00001234#32 ∧
      (after (step (issuing 0x00000005#32 (holding [0x11, 0x22, 0x33, 0x44, 0x55])))).codecInt = 0x44332211#32 := by
  decide +kernel

/-- V-COD-3 and V-COD-7. -/
theorem test_as_float :
    (after (step (issuing 0x00000006#32 (holding [0x34, 0x12])))).codecFloat = 0x00000000#32 ∧
      (after (step (issuing 0x00000006#32 (holding [0x00, 0x00, 0xC0, 0x7F])))).codecFloat = 0x7FC00000#32 := by
  decide +kernel

/-! ## Receive steps, the host bus -/

/-- V-DEC-18's STATUS: a garbage byte changes nothing, the marker starts READ_HEADER. -/
theorem test_seek :
    (after (step (running .seekStart [] 8 [.byte 0x13]))).busRead 0x004 = 0x00000011#32 ∧
      (after (step (running .seekStart [] 8 [.byte 0xAA]))).busRead 0x004 = 0x00000021#32 := by decide +kernel

/-- The 13th header byte of V-DEC-3 (09), of V-DEC-16 (71 after a changed byte), and of V-DEC-23 (E1, body_length 250). -/
theorem test_header_last_byte :
    (after (step (running .readHeader ([0xAA] ++ responseHeader 14 ++ [0x73]) 8 [.byte 0x09]))).busRead 0x004 =
        0x00000041#32 ∧
      (after (step (running .readHeader ([0xAA] ++ headerBytes 0 1 102 10 ++ [0x6F]) 8 [.byte 0x71]))).busRead 0x004 =
        0x00000600#32 ∧
      (after (step (running .readHeader ([0xAA] ++ responseHeader 250 ++ [0x5F]) 8 [.byte 0xE1]))).busRead 0x004 =
        0x00000900#32 := by decide +kernel

/-- V-DEC-2, V-DEC-8, V-DEC-11 and V-DEC-7 with RX_CAP = 4: the outcome of the last body byte. -/
theorem test_classification :
    (after (step (lastByteOf [0x01, 0x01, 0x07, 0x00] 8))).busRead 0x068 = 7#32 ∧
      (after (step (lastByteOf [0x03, 0x01, 0x07, 0x00, 0x00, 0x00] 8))).status.outcome = .invalidFrame ∧
      (after (step (lastByteOf [0x02, 0x03, 0x01, 0x00, 0xCF, 0x0B, 0x00, 0x00, 0x01, 0x00] 8))).status.outcome =
        .invalidFrame ∧
      (after (step (lastByteOf [0x02, 0x01, 0x01, 0x00, 0xCF, 0x0B, 0x00, 0x00, 0x01, 0x00, 0x11, 0x22, 0x33, 0x44, 0x55]
        4))).status.outcome = .bufferTooSmall := by decide +kernel

/-- V-PRG-2: TXVAL's word, and what stands at its end. -/
theorem test_txval_window :
    (idle.busWrite 0x40000 0x3F800000#32).memRead .txval 0 4 = [0x00, 0x00, 0x80, 0x3F] ∧
      (idle.busWrite 0x400E4 0x44332211#32).busRead 0x400E4 = 0x00002211#32 := by decide +kernel

/-- V-ENC-6: a register write is truncated. -/
theorem test_register_truncation :
    (idle.busWrite 0x014 0x000001FF#32).busRead 0x014 = 0x000000FF#32 ∧
      (idle.busWrite 0x018 0x00012345#32).busRead 0x018 = 0x00002345#32 := by decide +kernel

/-- V-CK-22: CHK_INIT while a DECODE runs. -/
theorem test_busy_fault :
    (after (step (issuing 0x00000001#32 (running .seekStart [] 8 [])))).busRead 0x004 = 0x00010011#32 := by decide +kernel

/-! ## A witness for every statement with hypotheses, each clause at a boundary of its range

`witness_<Name>` shows states and operands that meet the hypotheses of `Obligations.<Name>`. -/

/-- The state in which the block has its turn, with `events` coming. -/
def waiting (s : State) (events : List RxEvent) : State := (s.setAgenda []).setAnswers events

theorem witness_DecodeAndEncodeAreInverse : Instr.wf (.chkByte 0xFF) = true ∧ decodeWord 0x0000FF02#32 = some (.chkByte 0xFF) := by
  decide

theorem witness_OpcodeMapRowsDecideTheCommand :
    decodeWord 0x0000FF02#32 = some (.chkByte 0xFF) ∧ bitsOf 0xFFFFFFF0#32 3 0 = 0 ∧ 7 ≤ bitsOf 0x00000007#32 3 0 ∧
      7 ≤ bitsOf 0x0000000F#32 3 0 := by decide

theorem witness_StepRunsTheDecodedCommand :
    (issuing 0x0000FF02#32 idle).atCmdWrite 0x0000FF02#32 [] ∧ decodeWord 0x0000FF02#32 = some (.chkByte 0xFF) := by decide

/-- A busy write; an illegal word; legal words of OP 1 and 6, and DECODE at the bound of RX_CAP. -/
theorem witness_CmdWriteDispatch :
    ((issuing 0x00000001#32 (running .seekStart [] 8 [])).atCmdWrite 0x00000001#32 [] ∧
      (issuing 0x00000001#32 (running .seekStart [] 8 [])).status.busy = true) ∧
    ((issuing 0x00000000#32 idle).atCmdWrite 0x00000000#32 [] ∧ (issuing 0x00000000#32 idle).status.busy = false ∧
      legal 0x00000000#32 = false) ∧
    (legal 0x00000001#32 = true ∧ bitsOf 0x00000001#32 3 0 = 1) ∧
    (legal 0x0000FF02#32 = true ∧ bitsOf 0x0000FF02#32 3 0 = 2) ∧
    (legal 0x00000003#32 = true ∧ bitsOf 0x00000003#32 3 0 = 3) ∧
    (legal 0x00000004#32 = true ∧ bitsOf 0x00000004#32 3 0 = 4 ∧
      (issuing 0x00000004#32 (idle.setRxCap 64)).rxCap.toNat ≤ (issuing 0x00000004#32 (idle.setRxCap 64)).cfg.rxvalBytes) ∧
    (legal 0x00000005#32 = true ∧ bitsOf 0x00000005#32 3 0 = 5) ∧
    (legal 0x00000006#32 = true ∧ bitsOf 0x00000006#32 3 0 = 6) := by decide +kernel

/-- An illegal and a legal word, each while a DECODE runs. -/
theorem witness_CmdWriteWhileBusyOnlySetsFaultBusy :
    ((issuing 0xFFFFFFFF#32 (running .readHeader [0xAA] 8 [])).atCmdWrite 0xFFFFFFFF#32 [] ∧
      (issuing 0xFFFFFFFF#32 (running .readHeader [0xAA] 8 [])).status.busy = true) ∧
    (issuing 0x00000004#32 (running .readHeader [0xAA] 8 [])).atCmdWrite 0x00000004#32 [] := by decide +kernel

theorem witness_IllegalCommandRecordsOnlyTheOutcome :
    ((issuing 0x00000000#32 idle).status.busy = false ∧ (issuing 0x00000000#32 idle).status.phase = .idle ∧
      (issuing 0x00000000#32 idle).atCmdWrite 0x00000000#32 [] ∧ legal 0x00000000#32 = false) ∧
    (issuing 0x00000004#32 (idle.setRxCap 65)).rxCap.toNat > (issuing 0x00000004#32 (idle.setRxCap 65)).cfg.rxvalBytes ∧
    (∃ t, step (issuing 0x00000004#32 (idle.setRxCap 65)) = .next t ∧ t.status.outcome = .illegalCommand ∧
      (issuing 0x00000004#32 (idle.setRxCap 65)).status.outcome ≠ .illegalCommand) := by
  refine ⟨by decide +kernel, by decide +kernel, _, rfl, by decide +kernel, by decide +kernel⟩

/-- A command that runs, and the clauses for an ENCODE at 26 + N = FRAME_BUF_CAP + 1 and for a busy block. -/
theorem witness_CommandsFrame :
    (∃ t, exec .asInt describing = .next t) ∧ describing.status.busy = false ∧ Instr.asInt ≠ .encode ∧
    26 + (idle.setTx { descriptor with valueLen := 231 }).tx.valueLen.toNat > idle.cfg.frameBufCap ∧
    (running .seekStart [] 8 []).status.busy = true := ⟨⟨_, rfl⟩, by decide +kernel⟩

theorem witness_ChkInitResetsTheChecksumUnit :
    (bitsOf 0x00000101#32 3 0 = 1 ∧ (0x00000101#32 : Word) ≠ 0x00000001#32) ∧ idle.status.busy = false ∧
      (∃ t, exec .chkInit idle = .next t) ∧ (running .seekStart [] 8 []).status.busy = true :=
  ⟨by decide, by decide, ⟨_, rfl⟩, by decide +kernel⟩

theorem witness_ChkByteAdvancesTheChecksumUnit :
    idle.status.busy = false ∧ (running .seekStart [] 8 []).status.busy = true := by decide +kernel

/-- CHK_INIT and CHK_BYTE 01, with a host read, an arriving byte and a turn of the block between. -/
theorem witness_CommandSequenceComputesTheChecksum :
    idle.status.busy = false ∧
    (∀ a ∈ ([.host (.write 0x00000#20 4 0x00000001#32), .host (.read 0x00008#20 4), .arrive (.byte 0x13), .receive,
              .host (.write 0x00000#20 4 0x00000102#32)] : List Machine.Action), a.quiet = true) ∧
    ([.host (.write 0x00000#20 4 0x00000001#32), .host (.read 0x00008#20 4), .arrive (.byte 0x13), .receive,
        .host (.write 0x00000#20 4 0x00000102#32)] : List Machine.Action).filterMap Action.commandWord =
      (Instr.chkInit :: [0x01].map Instr.chkByte).map encode := by decide

theorem witness_OneChangedByteChangesA : (0x10#8 : Byte) ≠ 0x90#8 := by decide

theorem witness_OnlyChecksumCommandsChangeChk :
    (∃ t, step (issuing 0x00000102#32 idle) = .next t ∧ t.chk ≠ (issuing 0x00000102#32 idle).chk) ∧
    (∃ t, exec .encode describing = .next t) ∧ (∃ t, exec .decode idle = .next t) ∧
    (∃ t, receiveTurn (running .seekStart [] 8 [.byte 0xAA]) = .next t) :=
  ⟨⟨_, rfl, by decide +kernel⟩, ⟨_, rfl⟩, ⟨_, rfl⟩, ⟨_, rfl⟩⟩

/-- N = 230 fills SCRATCH, N = 231 does not fit. -/
theorem witness_EncodeBuildsTheFrameOfTheDescriptor :
    describing.status.busy = false ∧
    26 + (describing.setTx { descriptor with valueLen := 230 }).tx.valueLen.toNat ≤ describing.cfg.frameBufCap ∧
    26 + (describing.setTx { descriptor with valueLen := 231 }).tx.valueLen.toNat > describing.cfg.frameBufCap ∧
    (running .seekStart [] 8 []).status.busy = true := by
  decide +kernel

theorem witness_EncodeRefusesExactlyTheFramesThatDoNotFit :
    describing.status.busy = false ∧
    (∃ t, exec .encode describing = .next t ∧ t.status.outcome ≠ .bufferTooSmall) ∧
    (∃ t, exec .encode (describing.setTx { descriptor with valueLen := 231 }) = .next t ∧
      t.status.outcome = .bufferTooSmall) :=
  ⟨by decide +kernel, ⟨_, rfl, by decide +kernel⟩, ⟨_, rfl, by decide +kernel⟩⟩

theorem witness_EncodedFieldsStandAtTheirPositions :
    describing.status.busy = false ∧ 26 + describing.tx.valueLen.toNat ≤ describing.cfg.frameBufCap ∧
    ∃ t, exec .encode describing = .next t := ⟨by decide +kernel, by decide +kernel, _, rfl⟩

theorem witness_DecodeStartStep :
    idle.status.busy = false ∧ (idle.setRxCap 64).rxCap.toNat ≤ (idle.setRxCap 64).cfg.rxvalBytes ∧
      (idle.setRxCap 65).rxCap.toNat > (idle.setRxCap 65).cfg.rxvalBytes ∧
      (running .seekStart [] 8 []).status.busy = true := by decide +kernel

/-- Not busy; busy without an answer; busy in each phase with one. -/
theorem witness_ReceiveStepConsumesExactlyOneEvent :
    (idle.atTurn [] ∧ idle.status.busy = false) ∧
    ((running .seekStart [] 8 []).atTurn [] ∧ (running .seekStart [] 8 []).rxAnswers = []) ∧
    ((running .seekStart [] 8 [.timeout]).status.busy = true ∧
      (running .seekStart [] 8 [.timeout]).rxAnswers = .timeout :: []) ∧
    ((running .seekStart [] 8 [.timeout]).phaseOk ∧ (running .seekStart [] 8 [.timeout]).status.phase = .seekStart) ∧
    ((running .readHeader [0xAA] 8 [.timeout]).phaseOk ∧
      (running .readHeader [0xAA] 8 [.timeout]).status.phase = .readHeader) ∧
    ((lastByteOf body230 8).phaseOk ∧ (lastByteOf body230 8).status.phase = .readBody) :=
  ⟨by decide +kernel, by decide +kernel, by decide +kernel, ⟨rfl, rfl⟩, ⟨rfl, rfl⟩, ⟨rfl, rfl⟩⟩

theorem witness_SeekStartDiscardsUntilTheMarker :
    ((running .seekStart [] 8 [.byte 0xAA]).receives (.byte 0xAA) [] [] ∧
      (running .seekStart [] 8 [.byte 0xAA]).status.phase = .seekStart) ∧
    ((running .seekStart [] 8 [.byte 0xAB]).receives (.byte 0xAB) [] [] ∧ (0xAB#8 : Byte) ≠ 0xAA#8) ∧
    (running .seekStart [] 8 [.timeout]).receives .timeout [] [] ∧
    (running .seekStart [] 8 [.ioFault]).receives .ioFault [] [] := by decide +kernel

/-- dec_pos = 1, the first header byte; dec_pos = 12, the last that does not validate; a short read at dec_pos = 13. -/
theorem witness_ReadHeaderStoresOrFailsShort :
    ((running .readHeader [0xAA] 8 [.byte 0x00]).receives (.byte 0x00) [] [] ∧
      (running .readHeader [0xAA] 8 [.byte 0x00]).status.phase = .readHeader ∧
      (running .readHeader [0xAA] 8 [.byte 0x00]).decPos.toNat = 1) ∧
    ((running .readHeader ([0xAA] ++ responseHeader 14) 8 [.byte 0x73]).receives (.byte 0x73) [] [] ∧
      (running .readHeader ([0xAA] ++ responseHeader 14) 8 [.byte 0x73]).decPos.toNat = 12) ∧
    ((running .readHeader ([0xAA] ++ responseHeader 14 ++ [0x73]) 8 [.timeout]).receives .timeout [] [] ∧
      (running .readHeader ([0xAA] ++ responseHeader 14 ++ [0x73]) 8 [.timeout]).decPos.toNat = 13) := by decide +kernel

/-- The checksum matches with a body that fits exactly (240) and with one byte more (241); it does not match. -/
theorem witness_LastHeaderByteValidatesTheHeader :
    ((running .readHeader ([0xAA] ++ responseHeader 240 ++ [0x55]) 8 [.byte 0xCD]).receives (.byte 0xCD) [] [] ∧
      (running .readHeader ([0xAA] ++ responseHeader 240 ++ [0x55]) 8 [.byte 0xCD]).status.phase = .readHeader ∧
      (running .readHeader ([0xAA] ++ responseHeader 240 ++ [0x55]) 8 [.byte 0xCD]).decPos.toNat = 13 ∧
      checksum ((running .readHeader ([0xAA] ++ responseHeader 240 ++ [0x55]) 8 []).memRead .scratch 1 11) =
        { a := 0x55, b := 0xCD } ∧
      16 + (le16 (responseHeader 240) 9).toNat = idle.cfg.frameBufCap) ∧
    (16 + (le16 (responseHeader 241) 9).toNat > idle.cfg.frameBufCap ∧
      checksum ((running .readHeader ([0xAA] ++ responseHeader 241 ++ [0x56]) 8 []).memRead .scratch 1 11) =
        { a := 0x56, b := 0xCF }) ∧
    checksum ((running .readHeader ([0xAA] ++ responseHeader 240 ++ [0x55]) 8 []).memRead .scratch 1 11) ≠
      { a := 0x55, b := 0xCE } := by decide +kernel

/-- A body byte before the last; the last byte with a matching checksum, and with another one; a short read. -/
theorem witness_ReadBodyStoresAndValidates :
    ((lastByteOf body230 8).receives (.byte 0x35) [] [] ∧ (lastByteOf body230 8).status.phase = .readBody ∧
      14 ≤ (lastByteOf body230 8).decPos.toNat ∧
      (lastByteOf body230 8).decPos.toNat + 1 = 16 + (lastByteOf body230 8).rx.bodyLen.toNat ∧
      16 + (lastByteOf body230 8).rx.bodyLen.toNat ≤ (lastByteOf body230 8).cfg.frameBufCap ∧
      checksum (lastByteOf body230 8).receivedBody =
        { a := (lastByteOf body230 8).byteAt .scratch (14 + (lastByteOf body230 8).rx.bodyLen.toNat), b := 0x35 }) ∧
    (checksum (lastByteOf body230 8).receivedBody ≠
        { a := (lastByteOf body230 8).byteAt .scratch (14 + (lastByteOf body230 8).rx.bodyLen.toNat), b := 0x36 }) ∧
    (((lastByteOf body230 8).setDecPos 14).decPos.toNat + 1 ≠ 16 + ((lastByteOf body230 8).setDecPos 14).rx.bodyLen.toNat) ∧
    ((lastByteOf body230 8).setAnswers [.timeout]).receives .timeout [] [] ∧
    ((lastByteOf body230 8).setAnswers [.ioFault]).receives .ioFault [] [] := by decide +kernel

/-- A state at the last byte of `body`, whose checksum matches. -/
abbrev AtValidBody (s : State) (bytes : List Byte) (b : Byte) : Prop :=
  s.receivesLast b [] [] ∧ s.receivedBody = bytes ∧
    checksum s.receivedBody = { a := s.byteAt .scratch (14 + s.rx.bodyLen.toNat), b := b }

/-- L = 0 and 1 (V-DEC-9, V-DEC-10); the error bit with L = 4 and with L = 6 (V-DEC-2, V-DEC-8); no response bit with
L = 2; a response with service 3, and with service 1 and L = 9. -/
theorem witness_ClassificationOfOtherBodies :
    AtValidBody (lastByteOf [] 8) [] 0x00 ∧ ¬ propertyResponse [] ∧
    AtValidBody (lastByteOf [0x02] 8) [0x02] 0x01 ∧ ¬ propertyResponse [0x02] ∧
    AtValidBody (lastByteOf [0x01, 0x01, 0x07, 0x00] 8) [0x01, 0x01, 0x07, 0x00] 0x11 ∧
    ¬ propertyResponse [0x01, 0x01, 0x07, 0x00] ∧
    AtValidBody (lastByteOf [0x03, 0x01, 0x07, 0x00, 0x00, 0x00] 8) [0x03, 0x01, 0x07, 0x00, 0x00, 0x00] 0x2D ∧
    ¬ propertyResponse [0x03, 0x01, 0x07, 0x00, 0x00, 0x00] ∧
    AtValidBody (lastByteOf [0x00, 0x01] 8) [0x00, 0x01] (checksum [0x00, 0x01]).b ∧ ¬ propertyResponse [0x00, 0x01] ∧
    AtValidBody (lastByteOf [0x02, 0x03] 8) [0x02, 0x03] (checksum [0x02, 0x03]).b ∧ ¬ propertyResponse [0x02, 0x03] ∧
    AtValidBody (lastByteOf (body230.take 9) 8) (body230.take 9) (checksum (body230.take 9)).b ∧
    ¬ propertyResponse (body230.take 9) := by
  refine ⟨?_, ?_, ?_, ?_, ?_, ?_, ?_, ?_, ?_, ?_, ?_, ?_, ?_, ?_⟩ <;> decide +kernel

/-- N = 4 with RX_CAP = 5, 4 and 3, and N = 0 (V-DEC-6) with RX_CAP = 0. -/
theorem witness_DeliveryOfAPropertyResponse :
    AtValidBody (lastByteOf body230 5) body230 0x35 ∧ propertyResponse body230 ∧
      (lastByteOf body230 5).decCap.toNat ≤ (lastByteOf body230 5).cfg.rxvalBytes ∧
    ((lastByteOf body230 5).rx.bodyLen.toNat - 10 < (lastByteOf body230 5).decCap.toNat) ∧
    ((lastByteOf body230 4).rx.bodyLen.toNat - 10 = (lastByteOf body230 4).decCap.toNat) ∧
    ((lastByteOf body230 3).rx.bodyLen.toNat - 10 > (lastByteOf body230 3).decCap.toNat) ∧
    AtValidBody (lastByteOf (body230.take 10) 0) (body230.take 10) (checksum (body230.take 10)).b ∧
    propertyResponse (body230.take 10) := by decide +kernel

theorem witness_ResynchronisationSkipsGarbage :
    (running .seekStart [] 8 []).agenda = [] ∧ (running .seekStart [] 8 []).status.busy = true ∧
      (running .seekStart [] 8 []).status.phase = .seekStart ∧ 0xAA#8 ∉ ([0x00, 0x13, 0x55] : List Byte) := by
  decide +kernel

/-- The invariant holds in a running DECODE's first phase. -/
theorem running_inv (events : List RxEvent) : (running .seekStart [] 8 events).Inv where
  memories := by
    refine ⟨⟨⟨List.Pairwise.nil, ?_⟩, ?_⟩, ⟨⟨List.Pairwise.nil, ?_⟩, ?_⟩, ⟨⟨List.Pairwise.nil, ?_⟩, ?_⟩⟩ <;>
      intro c hc <;> cases hc
  phase    := rfl
  position := rfl
  header   := trivial
  outcome  := ⟨fun _ => rfl, nofun⟩
  lengths  := ⟨fun _ => by show 8 ≤ 64; omega, Nat.zero_le _, .inl rfl⟩

/-- The invariant holds at the last byte of V-DEC-3. -/
theorem lastByte_inv : (lastByteOf body230 8).Inv where
  memories := by decide +kernel
  phase    := rfl
  position := ⟨by decide +kernel, by decide +kernel, by decide +kernel⟩
  header   := ⟨by decide +kernel, by decide +kernel, by decide +kernel, by decide +kernel⟩
  outcome  := by decide +kernel
  lengths  := by decide +kernel

/-- A Timeout after no byte and after one; in READ_BODY with one byte missing, exactly that byte. -/
theorem witness_DecodeFinishesWhenTheStreamBringsItTo :
    ((running .seekStart [] 8 [.timeout]).Inv ∧ (running .seekStart [] 8 [.timeout]).agenda = [] ∧
      (running .seekStart [] 8 [.timeout]).status.busy = true ∧
      (running .seekStart [] 8 [.timeout]).rxAnswers = [] ++ .timeout :: []) ∧
    ((running .seekStart [] 8 [.byte 0x13, .ioFault]).Inv ∧
      (running .seekStart [] 8 [.byte 0x13, .ioFault]).rxAnswers = [.byte 0x13] ++ .ioFault :: []) ∧
    ((lastByteOf body230 8).Inv ∧ (lastByteOf body230 8).agenda = [] ∧ (lastByteOf body230 8).status.busy = true ∧
      (lastByteOf body230 8).status.phase = .readBody ∧ (lastByteOf body230 8).rxAnswers = [.byte 0x35] ∧
      16 + (lastByteOf body230 8).rx.bodyLen.toNat = (lastByteOf body230 8).decPos.toNat + [RxEvent.byte 0x35].length) :=
  ⟨⟨running_inv _, rfl, rfl, rfl⟩, ⟨running_inv _, rfl⟩,
    ⟨lastByte_inv, by decide +kernel, by decide +kernel, by decide +kernel, by decide +kernel, by decide +kernel⟩⟩

/-- V-DEC-16: F[6] changed from 65 to 66. And V-DEC-3's last byte with the body byte at SCRATCH[18] changed. -/
theorem witness_OneCorruptedByteIsDetected :
    (0x65#8 : Byte) ≠ 0x66#8 ∧
    ((running .readHeader ([0xAA] ++ headerBytes 0 1 102 10 ++ [0x6F]) 8 [.byte 0x71]).receives (.byte 0x71) [] [] ∧
      (running .readHeader ([0xAA] ++ headerBytes 0 1 102 10 ++ [0x6F]) 8 [.byte 0x71]).status.phase = .readHeader ∧
      (running .readHeader ([0xAA] ++ headerBytes 0 1 102 10 ++ [0x6F]) 8 [.byte 0x71]).decPos.toNat = 13 ∧
      (running .readHeader ([0xAA] ++ headerBytes 0 1 102 10 ++ [0x6F]) 8 [.byte 0x71]).memRead .scratch 1 11 =
        [0x00, 0x01, 0x00, 0x00, 0x00] ++ 0x66 :: [0x00, 0x00, 0x00, 0x0A, 0x00] ∧
      checksum ([0x00, 0x01, 0x00, 0x00, 0x00] ++ 0x65 :: [0x00, 0x00, 0x00, 0x0A, 0x00]) = { a := 0x6F, b := 0x71 } ∧
      (running .readHeader ([0xAA] ++ headerBytes 0 1 102 10 ++ [0x6F]) 8 [.byte 0x71]).byteAt .scratch 12 = 0x6F) ∧
    (((lastByteOf body230 8).storeBytes .scratch 18 [0xCE]).receivesLast 0x35 [] [] ∧
      ((lastByteOf body230 8).storeBytes .scratch 18 [0xCE]).receivedBody = body230.take 4 ++ 0xCE :: body230.drop 5 ∧
      checksum (body230.take 4 ++ 0xCF :: body230.drop 5) =
        { a := ((lastByteOf body230 8).storeBytes .scratch 18 [0xCE]).byteAt .scratch 28, b := 0x35 }) := by decide +kernel

/-- V-ENC-7, at N = RX_CAP and at N = 0. -/
theorem witness_EncodedFrameRoundTrip :
    ((describing.setRxCap 4).status.busy = false ∧ (describing.setRxCap 4).agenda = [] ∧
      26 + (describing.setRxCap 4).tx.valueLen.toNat ≤ (describing.setRxCap 4).cfg.frameBufCap ∧
      (describing.setRxCap 4).tx.service = 2#8 ∧
      (describing.setRxCap 4).tx.valueLen.toNat ≤ (describing.setRxCap 4).rxCap.toNat ∧
      (describing.setRxCap 4).rxCap.toNat ≤ (describing.setRxCap 4).cfg.rxvalBytes) ∧
    ((idle.setTx { descriptor with service := 1, valueLen := 0 }).tx.service = 1#8 ∧
      (idle.setTx { descriptor with service := 1, valueLen := 0 }).tx.valueLen.toNat ≤ idle.rxCap.toNat) := by
  decide +kernel

theorem witness_HostWritesDoNotAffectARunningDecode :
    (∃ t, exec .decode (idle.setRxCap 8) = .next t ∧ t.status.busy = true) ∧ idle.status.busy = false ∧
    (∃ t, receiveTurn (running .seekStart [] 8 [.byte 0xAA]) = .next t) :=
  ⟨⟨_, rfl, by decide +kernel⟩, by decide, ⟨_, rfl⟩⟩

theorem witness_AsIntConvertsTheDeliveredValue :
    (holding [0x34, 0x12]).status.busy = false ∧ (holding [0x34, 0x12]).rx.valueLen.toNat = 2 ∧
      (running .seekStart [] 8 []).status.busy = true ∧ (holding [0x34]).rx.valueLen.toNat = 1 ∧ (holding [0x01, 0x02, 0x03]).rx.valueLen.toNat = 3 ∧
      (holding [0x00, 0x00, 0xC0, 0x7F]).rx.valueLen.toNat = 4 := by decide +kernel

theorem witness_AsFloatPassesTheDeliveredPattern :
    (holding [0x01, 0x02, 0x03]).status.busy = false ∧ (running .seekStart [] 8 []).status.busy = true ∧
      (holding [0x01, 0x02, 0x03]).rx.valueLen.toNat = 3 ∧
      (holding [0x00, 0x00, 0xC0, 0x7F]).rx.valueLen.toNat = 4 := by decide +kernel

/-- A running DECODE that ends OK, and one that times out; a start accepted at RX_CAP = 64, and one refused at 65. -/
theorem witness_OnlyAnOkDecodeLeavesAValueLength :
    ((∃ t, step (lastByteOf body230 8) = .next t ∧ t.status.outcome = .ok ∧ t.rx.valueLen = 4) ∧
      (lastByteOf body230 8).status.busy = true ∧ (lastByteOf body230 8).rx.valueLen = 0) ∧
    (∃ t, step (running .seekStart [] 8 [.timeout]) = .next t ∧ t.rx.valueLen = 0) ∧
    ((holding [0x34]).status.busy = false ∧
      (∃ t, exec .decode ((holding [0x34]).setRxCap 64) = .next t ∧ t.status.busy = true) ∧
      (∃ t, exec .decode ((holding [0x34]).setRxCap 65) = .next t ∧ t.status.busy = false ∧ t.rx.valueLen = 1)) :=
  ⟨⟨⟨_, rfl, by decide +kernel, by decide +kernel⟩, by decide +kernel, by decide +kernel⟩,
    ⟨_, rfl, by decide +kernel⟩, by decide +kernel, ⟨_, rfl, by decide +kernel⟩,
    ⟨_, rfl, by decide +kernel, by decide +kernel⟩⟩

theorem witness_OnlyCodecCommandsChangeCodecRegisters :
    (∃ t, step (issuing 0x00000005#32 (holding [0x34, 0x12])) = .next t ∧
      t.codecInt ≠ (issuing 0x00000005#32 (holding [0x34, 0x12])).codecInt) ∧
    (∃ t, step (issuing 0x00000006#32 (holding [0x00, 0x00, 0xC0, 0x7F])) = .next t ∧
      t.codecFloat ≠ (issuing 0x00000006#32 (holding [0x00, 0x00, 0xC0, 0x7F])).codecFloat) ∧
    ¬ ∃ rest, (issuing 0x00000005#32 (holding [0x34, 0x12])).agenda = .reset :: rest :=
  ⟨⟨_, rfl, by decide +kernel⟩, ⟨_, rfl, by decide +kernel⟩, nofun⟩

theorem witness_RegisterWritesTruncateOrAreIgnored :
    (idle.setAgenda [.host (.write 0x00014#20 4 0x1FF#32)]).agenda = .host (.write 0x00014#20 4 0x1FF#32) :: [] ∧
      (0x00014#20).toNat % 4 = 0 ∧ (0x00014#20 : BitVec 20) ≠ 0x00000#20 ∧ 0x074 ∈ [0x070, 0x074] := by decide

/-- The first word of a window, and the last; the last byte of TXVAL, and the first past it. -/
theorem witness_WindowsReadAndWriteLittleEndian :
    0 < 0x20000 ∧ 0 % 4 = 0 ∧ 0x1FFFC < 0x20000 ∧ 0x1FFFC % 4 = 0 ∧ 229 < idle.cfg.txvalBytes ∧
      ¬ 230 < idle.cfg.txvalBytes ∧ idle.memSize .txval ≤ 230 := by decide +kernel

/-- 0x00C between registers, 0x078 after them, the last offset below the windows, the first above. -/
theorem witness_UnmappedOffsetsReadZeroAndIgnoreWrites :
    (0x00C < 0x20000 ∧ 0x00C ∉ [0x000, 0x004, 0x008, 0x010]) ∧ (0x1FFFC < 0x20000 ∧ 0x1FFFC ∉ [0x070, 0x074]) ∧
      0x80000 ≤ 0x80000 ∧ idle.busRead 0x00C = 0#32 := by decide +kernel

theorem witness_SubWordAndMisalignedAccessesAreRefused :
    (Access.read 0x00004#20 3).bytes ≠ 4 ∧
    ((Access.read 0x00005#20 4).bytes = 4 ∧ (Access.read 0x00005#20 4).offset.toNat % 4 ≠ 0) ∧
    ((Access.write 0xFFFFC#20 4 0#32).bytes = 4 ∧ (Access.write 0xFFFFC#20 4 0#32).offset.toNat % 4 = 0) ∧
    (idle.setAgenda [.host (.read 0x00004#20 3)]).agenda = .host (.read 0x00004#20 3) :: [] := by decide

/-- A read; writes of the last RW register, of an RO one, of TXVAL's first word and of the word at its end (230 bytes). -/
theorem witness_HostReadsHaveNoSideEffect :
    (idle.setAgenda [.host (.read 0x00008#20 4)]).agenda = .host (.read 0x00008#20 4) :: [] ∧ (0x00008#20).toNat % 4 = 0 ∧
    (idle.setAgenda [.host (.write 0x40000#20 4 7#32)]).agenda = .host (.write 0x40000#20 4 7#32) :: [] ∧
    (0x40000#20).toNat % 4 = 0 ∧ (0x40000#20 : BitVec 20) ≠ 0x00000#20 ∧
    ((0x0002C#20).toNat % 4 = 0 ∧ (0x0002C#20 : BitVec 20) ≠ 0x00000#20) ∧
    ((0x00074#20).toNat % 4 = 0 ∧ (0x00074#20 : BitVec 20) ≠ 0x00000#20) ∧
    ((0x400E4#20).toNat % 4 = 0 ∧ (0x400E4#20).toNat ≤ 0x40000 + 229 ∧ 0x40000 + 230 < (0x400E4#20).toNat + 4 ∧
      229 < idle.cfg.txvalBytes ∧ ¬ 230 < idle.cfg.txvalBytes) := by decide +kernel

/-- FAULT_BUSY set in a busy write, kept by a later command, cleared by reset. -/
theorem witness_OnlyResetClearsFaultBusy :
    (∃ t, step (issuing 0x00000001#32 (running .seekStart [] 8 [])) = .next t ∧ t.status.faultBusy = true ∧
      (issuing 0x00000001#32 (running .seekStart [] 8 [])).status.faultBusy = false) ∧
    ((issuing 0x00000001#32 idle.busyFault).status.faultBusy = true ∧
      (∃ t, step (issuing 0x00000001#32 idle.busyFault) = .next t) ∧
      ¬ ∃ rest, (issuing 0x00000001#32 idle.busyFault).agenda = .reset :: rest) ∧
    (idle.busyFault.setAgenda [.reset]).agenda = .reset :: [] :=
  ⟨⟨_, rfl, by decide +kernel⟩, ⟨rfl, ⟨_, rfl⟩, nofun⟩, rfl⟩

theorem witness_OnlyTheHostWritesTxval :
    ∃ t, step (idle.setAgenda [.host (.write 0x400E4#20 4 0#32)]) = .next t ∧
      t.byteAt .txval 229 ≠ (idle.setAgenda [.host (.write 0x400E4#20 4 0#32)]).byteAt .txval 229 :=
  ⟨_, rfl, by decide +kernel⟩

theorem witness_OnlyAnOkDeliveryWritesRxval :
    ∃ t, step (lastByteOf body230 8) = .next t ∧ t.byteAt .rxval 4 ≠ (lastByteOf body230 8).byteAt .rxval 4 :=
  ⟨_, rfl, by decide +kernel⟩

theorem witness_OnlyEncodeAndReceptionWriteScratch :
    (∃ t, step (issuing 0x00000003#32 describing) = .next t ∧
      t.byteAt .scratch 29 ≠ (issuing 0x00000003#32 describing).byteAt .scratch 29) ∧
    (∃ t, step (running .seekStart [] 8 [.byte 0xAA]) = .next t ∧
      t.byteAt .scratch 0 ≠ (running .seekStart [] 8 [.byte 0xAA]).byteAt .scratch 0) :=
  ⟨⟨_, rfl, by decide +kernel⟩, ⟨_, rfl, by decide +kernel⟩⟩

theorem witness_ArrivingBytesAreKeptInOrder :
    (idle.setAgenda [.arrive (.byte 0x01)]).agenda = .arrive (.byte 0x01) :: [] ∧
    ((∃ t, step (issuing 0x00000004#32 (waiting idle [.byte 0x01])) = .next t) ∧
      (issuing 0x00000004#32 (waiting idle [.byte 0x01])).status.busy = false ∧
      ∀ e rest, (issuing 0x00000004#32 (waiting idle [.byte 0x01])).agenda ≠ .arrive e :: rest) ∧
    (running .seekStart [] 8 [.byte 0x01, .timeout]).receives (.byte 0x01) [.timeout] [] :=
  ⟨rfl, ⟨⟨_, rfl⟩, rfl, nofun⟩, by decide +kernel⟩

/-- A write of which all is accepted, and one accepting more than there is. -/
theorem witness_TransmitAcceptsTheFirstBytes :
    (idle.setAgenda [.transmit [0xAA, 0x00] 2]).agenda = .transmit [0xAA, 0x00] 2 :: [] ∧
    (idle.setAgenda [.transmit [0xAA, 0x00] 3]).agenda = .transmit [0xAA, 0x00] 3 :: [] ∧
    ((∃ t, step idle = .next t) ∧ ∀ bytes k rest, idle.agenda ≠ .transmit bytes k :: rest) :=
  ⟨rfl, rfl, ⟨_, rfl⟩, nofun⟩

/-- Reset during a DECODE. -/
theorem witness_ResetAtAnyPoint :
    ((running .readHeader [0xAA] 8 []).setAgenda [.reset]).agenda = .reset :: [] ∧
      0 < ((running .readHeader [0xAA] 8 []).setAgenda [.reset]).memSize .scratch := by decide +kernel

theorem witness_EveryStepKeepsTheInvariant :
    (lastByteOf body230 8).Inv ∧ ∃ t, step (lastByteOf body230 8) = .next t := ⟨lastByte_inv, _, rfl⟩

theorem witness_NoFaultFromTheInvariant : (running .seekStart [] 8 []).Inv := running_inv []

theorem witness_DecodeResultFromTheRegisters :
    (idle.finish .ok).status.outcome = .ok ∧ (idle.finish .applicationError).status.outcome = .applicationError ∧
    (idle.finish .foreignRequest).status.outcome = .foreignRequest ∧
    ((idle.finish .portTimeout).status.outcome ≠ .ok ∧ (idle.finish .portTimeout).status.outcome ≠ .applicationError ∧
      (idle.finish .portTimeout).status.outcome ≠ .foreignRequest) := by decide

/-- The transaction of V-PRG-4 (Scenario A). -/
def transaction : Transaction :=
  { dest := 101, service := 1, objType := 1, objId := 3023, propId := 1, value := [], rxCap := 8 }

/-- The foreign request of V-DEC-15, as receive events. -/
def foreignRequest : List RxEvent :=
  (frameOf (headerBytes 0 1 101 10) (propertyBody 0 1 1 3000 1 [])).map .byte

/-- The attempts' clauses: a DECODE that ends with PORT_TIMEOUT, one that ends with FOREIGN_REQUEST, and a frame accepted
to its last byte. -/
theorem witness_PerformRetriesForeignRequestsThreeTimes_attempts :
    ((hostDecode (idle.setAnswers [.timeout])).status.busy = false ∧
      (hostDecode (idle.setAnswers [.timeout])).status.outcome ≠ .foreignRequest) ∧
    ((hostDecode (idle.setAnswers foreignRequest)).status.busy = false ∧
      (hostDecode (idle.setAnswers foreignRequest)).status.outcome = .foreignRequest) ∧
    ((hostCommand .encode (writeTransaction transaction idle)).status.outcome ≠ .bufferTooSmall ∧
      (hostCommand .encode (writeTransaction transaction idle)).txFrameLen.toNat = 26) := by decide +kernel

/-- V-PRG-4b: four foreign requests; the response that follows stays in the transport. -/
theorem witness_PerformRetriesForeignRequestsThreeTimes :
    (perform transaction 26 (idle.setAnswers (foreignRequest ++ foreignRequest ++ foreignRequest ++ foreignRequest ++
      [.byte 0xAA]))).decodes = 4 ∧
    (perform transaction 26 (idle.setAnswers (foreignRequest ++ foreignRequest ++ foreignRequest ++ foreignRequest ++
      [.byte 0xAA]))).result = some (.protocolError .portReadFailed) ∧
    (perform transaction 26 (idle.setAnswers (foreignRequest ++ foreignRequest ++ foreignRequest ++ foreignRequest ++
      [.byte 0xAA]))).state.status.outcome = .foreignRequest ∧
    (perform transaction 26 (idle.setAnswers (foreignRequest ++ foreignRequest ++ foreignRequest ++ foreignRequest ++
      [.byte 0xAA]))).state.rxAnswers = [.byte 0xAA] := by decide +kernel

/-- V-PRG-4c: 20 of 26 bytes accepted; and one byte short. -/
theorem witness_ShortWriteEndsTheTransaction :
    (hostCommand .encode (writeTransaction transaction idle)).status.outcome ≠ .bufferTooSmall ∧
      20 < (hostCommand .encode (writeTransaction transaction idle)).txFrameLen.toNat ∧
      25 < (hostCommand .encode (writeTransaction transaction idle)).txFrameLen.toNat := by decide +kernel

end Sys2Proof.Tests
end

section
/-! PROOFS. The words of the commands decode to them, and a step at a CMD write runs the command (30_encoding.md R69,
R71; O5). -/

namespace Sys2Proof.Machine

open Sys2Proof

variable {s : State} {w : Word} {i : Instr}

/-! The fields of a CHK_BYTE word (30_encoding.md R65). -/

theorem opField_encode_chkByte (b : Byte) : opField (encode (.chkByte b)) = 2#4 := by
  refine BitVec.eq_of_getLsbD_eq fun k hk => ?_
  rw [opField, BitVec.getLsbD_extractLsb', Laws.OpcodeRow.encode_chkByte_getLsbD]
  interval_cases k <;> rfl

theorem lowReservedField_encode_chkByte (b : Byte) : lowReservedField (encode (.chkByte b)) = 0#4 := by
  refine BitVec.eq_of_getLsbD_eq fun k hk => ?_
  rw [lowReservedField, BitVec.getLsbD_extractLsb', Laws.OpcodeRow.encode_chkByte_getLsbD]
  interval_cases k <;> rfl

theorem dataField_encode_chkByte (b : Byte) : dataField (encode (.chkByte b)) = b := by
  refine BitVec.eq_of_getLsbD_eq fun k hk => ?_
  rw [dataField, BitVec.getLsbD_extractLsb', Laws.OpcodeRow.encode_chkByte_getLsbD,
    if_neg (by omega), if_pos (by omega), Nat.add_sub_cancel_left]
  simp [hk]

theorem highReservedField_encode_chkByte (b : Byte) : highReservedField (encode (.chkByte b)) = 0#16 := by
  refine BitVec.eq_of_getLsbD_eq fun k hk => ?_
  rw [highReservedField, BitVec.getLsbD_extractLsb', Laws.OpcodeRow.encode_chkByte_getLsbD,
    if_neg (by omega), if_neg (by omega)]
  simp

/-- The word of a command decodes to it; only CHK_BYTE's has a variable field. -/
theorem decodeWord_encode (i : Instr) : decodeWord (encode i) = some i := by
  cases i with
  | chkByte b =>
    unfold decodeWord decode decodeOp
    rw [if_pos ⟨lowReservedField_encode_chkByte b, highReservedField_encode_chkByte b⟩, opField_encode_chkByte,
      dataField_encode_chkByte]
    rfl
  | chkInit | encode | decode | asInt | asFloat => decide

/-- A CMD write of a command's word is that command, busy or not: `exec` makes the busy check too. -/
theorem commandWrite_of_decodeWord (h : decodeWord w = some i) : commandWrite w s = exec i s := by
  unfold commandWrite dispatchCommand
  split
  · exact (exec_busy ‹_›).symm
  · rw [h]

/-- `withFetchWord` puts the CMD write of the whole word in front of the agenda. -/
theorem withFetchWord_atCmdWrite (s : State) (w : Word) :
    (s.withFetchWord 32 w.toNat).atCmdWrite w s.agenda := by
  have hw : BitVec.ofNat 32 (w.toNat % 2 ^ 32) = w := by
    rw [Nat.mod_eq_of_lt w.isLt, BitVec.ofNat_toNat, BitVec.setWidth_eq]
  simp only [State.atCmdWrite, State.withFetchWord, State.withCommand, State.setAgenda_agenda, hw]

/-- Settles O5: the step at a CMD write is the dispatch, which runs the decoded command. -/
theorem stepRunsTheDecodedCommand : Obligations.StepRunsTheDecodedCommand := by
  refine ⟨fun s w rest i hw hi => ?_, fun s i => ?_⟩
  · rw [step_cmdWrite hw, commandWrite_of_decodeWord hi]
    rfl
  · rw [step_cmdWrite (withFetchWord_atCmdWrite s _), commandWrite_of_decodeWord (decodeWord_encode i)]
    rfl

end Sys2Proof.Machine
end

section
/-! PROOFS. CHK, CODEC_INT, CODEC_FLOAT and FAULT_BUSY in one step: only reset, the busy fault and the commands on them
change them (10_state.md R27, R29, R30; O34, O43). -/

namespace Sys2Proof.Machine

open Sys2Proof

variable {s t : State} {i : Instr}

/-- What only commands, the busy fault and reset write: CHK, the two codec registers and FAULT_BUSY. -/
structure State.CommandRegsKept (s t : State) : Prop where
  chk        : t.chk = s.chk
  codecInt   : t.codecInt = s.codecInt
  codecFloat : t.codecFloat = s.codecFloat
  faultBusy  : t.status.faultBusy = s.status.faultBusy

theorem encodeFrame_commandRegsKept (s : State) : s.CommandRegsKept (encodeFrame s) := by
  unfold encodeFrame
  split <;> exact ⟨rfl, rfl, rfl, rfl⟩

theorem decodeStart_commandRegsKept (s : State) : s.CommandRegsKept (decodeStart s) := by
  unfold decodeStart
  split <;> exact ⟨rfl, rfl, rfl, rfl⟩

/-- The block's turn writes none of them: they are in the decoder's frame. -/
theorem receiveTurn_commandRegsKept (h : receiveTurn s = .next t) : s.CommandRegsKept t :=
  have hf := receiveTurn_frame h
  ⟨hf.chk, hf.codecInt, hf.codecFloat, hf.faultBusy⟩

theorem busWrite_commandRegsKept (s : State) (offset : Nat) (v : Word) :
    s.CommandRegsKept (s.busWrite offset v) := by
  rw [State.busWrite_shape]
  exact ⟨rfl, rfl, rfl, rfl⟩

/-- The reasons for which a step may change one of them; every other step keeps them all. -/
theorem step_commandRegs (h : step s = .next t) :
    (∃ rest, s.agenda = .reset :: rest ∧ t = (s.setAgenda rest).platformReset) ∨
    (∃ w rest, s.atCmdWrite w rest ∧ s.status.busy = true ∧ t = (s.setAgenda rest).busyFault) ∨
    (∃ w rest i, s.atCmdWrite w rest ∧ s.status.busy = false ∧ decodeWord w = some i ∧
      exec i (s.setAgenda rest) = .next t) ∨
    s.CommandRegsKept t := by
  have keep {rest : List Action} (hk : (s.setAgenda rest).CommandRegsKept t) : s.CommandRegsKept t :=
    ⟨hk.chk, hk.codecInt, hk.codecFloat, hk.faultBusy⟩
  rcases step_cases h with ⟨_, _, ht⟩ | ⟨_, _, _, rfl⟩ | ⟨_, _, _, _, rfl⟩ | ⟨rest, ha, rfl⟩ | ⟨_, _, _, _, rfl⟩ |
    ⟨o, v, _, _, _, _, rfl⟩ | ⟨w, rest, hw, hc⟩
  case inl => exact .inr (.inr (.inr (keep (receiveTurn_commandRegsKept ht))))
  case inr.inl | inr.inr.inl | inr.inr.inr.inr.inl => exact .inr (.inr (.inr ⟨rfl, rfl, rfl, rfl⟩))
  case inr.inr.inr.inl => exact .inl ⟨rest, ha, rfl⟩
  case inr.inr.inr.inr.inr.inl => exact .inr (.inr (.inr (keep (busWrite_commandRegsKept _ o.toNat v))))
  case inr.inr.inr.inr.inr.inr =>
    rcases commandWrite_cases hc with ⟨hb, ht⟩ | ⟨_, _, rfl⟩ | ⟨i, hb, hi, he⟩
    · exact .inr (.inl ⟨w, rest, hw, hb, ht⟩)
    · exact .inr (.inr (.inr ⟨rfl, rfl, rfl, rfl⟩))
    · exact .inr (.inr (.inl ⟨w, rest, i, hw, hb, hi, he⟩))

/-! Which command changes which of them. -/

theorem exec_changes_chk (hb : s.status.busy = false) (h : exec i s = .next t) (hc : t.chk ≠ s.chk) :
    i = .chkInit ∨ ∃ b, i = .chkByte b := by
  rw [exec_idle hb, Host.Outcome.next.injEq] at h
  subst h
  cases i with
  | chkInit => exact .inl rfl
  | chkByte b => exact .inr ⟨b, rfl⟩
  | encode => exact absurd (encodeFrame_commandRegsKept s).chk hc
  | decode => exact absurd (decodeStart_commandRegsKept s).chk hc
  | asInt | asFloat => exact absurd rfl hc

theorem exec_changes_codecInt (hb : s.status.busy = false) (h : exec i s = .next t) (hc : t.codecInt ≠ s.codecInt) :
    i = .asInt ∧ t.codecInt = asInteger s.rxValue := by
  rw [exec_idle hb, Host.Outcome.next.injEq] at h
  subst h
  cases i with
  | asInt => exact ⟨rfl, rfl⟩
  | encode => exact absurd (encodeFrame_commandRegsKept s).codecInt hc
  | decode => exact absurd (decodeStart_commandRegsKept s).codecInt hc
  | chkInit | chkByte _ | asFloat => exact absurd rfl hc

theorem exec_changes_codecFloat (hb : s.status.busy = false) (h : exec i s = .next t)
    (hc : t.codecFloat ≠ s.codecFloat) : i = .asFloat ∧ t.codecFloat = asFloat s.rxValue := by
  rw [exec_idle hb, Host.Outcome.next.injEq] at h
  subst h
  cases i with
  | asFloat => exact ⟨rfl, rfl⟩
  | encode => exact absurd (encodeFrame_commandRegsKept s).codecFloat hc
  | decode => exact absurd (decodeStart_commandRegsKept s).codecFloat hc
  | chkInit | chkByte _ | asInt => exact absurd rfl hc

/-- No command that runs touches FAULT_BUSY. -/
theorem exec_idle_faultBusy (hb : s.status.busy = false) (h : exec i s = .next t) :
    t.status.faultBusy = s.status.faultBusy := by
  rw [exec_idle hb, Host.Outcome.next.injEq] at h
  subst h
  cases i with
  | encode => exact (encodeFrame_commandRegsKept s).faultBusy
  | decode => exact (decodeStart_commandRegsKept s).faultBusy
  | chkInit | chkByte _ | asInt | asFloat => rfl

/-- The delivered value does not depend on the coming actions. -/
@[simp] theorem rxValue_setAgenda (rest : List Action) : (s.setAgenda rest).rxValue = s.rxValue :=
  State.memRead_setAgenda rest

/-- Settles O34: a step that changes a codec register is none of the steps that keep them, so its command is the one. -/
theorem onlyCodecCommandsChangeCodecRegisters : Obligations.OnlyCodecCommandsChangeCodecRegisters := by
  intro s t h hreset
  rcases step_commandRegs h with ⟨rest, ha, -⟩ | ⟨_, _, _, _, rfl⟩ | ⟨w, rest, i, hw, hb, hi, he⟩ | hk
  · exact absurd ⟨rest, ha⟩ hreset
  · exact ⟨fun hc => absurd rfl hc, fun hc => absurd rfl hc⟩
  · constructor <;> intro hc
    · obtain ⟨rfl, hv⟩ := exec_changes_codecInt (s := s.setAgenda rest) hb he hc
      rw [rxValue_setAgenda] at hv
      exact ⟨hv, w, rest, hw, hi⟩
    · obtain ⟨rfl, hv⟩ := exec_changes_codecFloat (s := s.setAgenda rest) hb he hc
      rw [rxValue_setAgenda] at hv
      exact ⟨hv, w, rest, hw, hi⟩
  · exact ⟨fun hc => absurd hk.codecInt hc, fun hc => absurd hk.codecFloat hc⟩

/-- A step at which reset is asserted. -/
theorem step_reset {rest : List Action} (ha : s.agenda = .reset :: rest) :
    step s = .next (s.setAgenda rest).platformReset := by
  unfold step turn
  rw [ha]
  rfl

/-- What a step does to FAULT_BUSY: reset, the busy fault of a CMD write, or nothing. -/
theorem step_faultBusy (h : step s = .next t) :
    (∃ rest, s.agenda = .reset :: rest ∧ t.status.faultBusy = false) ∨
    ((∃ w rest, s.atCmdWrite w rest) ∧ s.status.busy = true ∧ t.status.faultBusy = true) ∨
    t.status.faultBusy = s.status.faultBusy := by
  rcases step_commandRegs h with ⟨rest, ha, rfl⟩ | ⟨w, rest, hw, hb, rfl⟩ | ⟨w, rest, i, -, hb, -, he⟩ | hk
  · exact .inl ⟨rest, ha, rfl⟩
  · exact .inr (.inl ⟨⟨w, rest, hw⟩, hb, rfl⟩)
  · exact .inr (.inr (exec_idle_faultBusy (s := s.setAgenda rest) hb he))
  · exact .inr (.inr hk.faultBusy)

/-- Settles O43: FAULT_BUSY is 0 after reset and 1 after the busy fault, and any other step keeps it. -/
theorem onlyResetClearsFaultBusy : Obligations.OnlyResetClearsFaultBusy := by
  intro s t h
  refine ⟨rfl, fun hset hreset => ?_, fun rest ha => ?_, fun hclear hset => ?_⟩
  · rcases step_faultBusy h with ⟨rest, ha, -⟩ | ⟨-, -, hf⟩ | hf
    · exact absurd ⟨rest, ha⟩ hreset
    · exact hf
    · exact hf.trans hset
  · rw [step_reset ha, Host.Outcome.next.injEq] at h
    rw [← h]
    rfl
  · rcases step_faultBusy h with ⟨-, -, hf⟩ | ⟨hw, hb, -⟩ | hf
    · exact absurd (hf.symm.trans hset) nofun
    · exact ⟨hb, hw⟩
    · exact absurd (hclear.symm.trans (hf.symm.trans hset)) nofun

end Sys2Proof.Machine
end

section
/-! PROOFS. CHK as the host reads it, and ENCODE, DECODE and the receive steps beside another CHK (10_state.md R29;
40_checksum.md R95; O15). -/

namespace Sys2Proof.Machine

open Sys2Proof

variable {s t : State} {ev : RxEvent}

theorem checksumWord_toNat (c : Checksum) : c.word.toNat = c.a.toNat + 256 * c.b.toNat := by
  unfold Checksum.word
  rw [BitVec.toNat_append, BitVec.toNat_append, BitVec.toNat_ofNat, Nat.zero_mod, Nat.zero_shiftLeft, Nat.zero_or,
    ← Nat.shiftLeft_add_eq_or_of_lt c.a.isLt, Nat.shiftLeft_eq]
  omega

/-- CHK reads at its offset of the register map. -/
theorem busRead_chk (s : State) : s.busRead 0x008 = s.chk.word := rfl

/-- With BUSY the same, a command commutes with a change of CHK if its meaning does. -/
theorem issue_setChk {f : State → State} {c : Checksum} (hf : f (s.setChk c) = (f s).setChk c) :
    issue f (s.setChk c) = (issue f s).setChk c := by
  unfold issue
  rw [State.setChk_status, hf]
  split <;> rfl

@[simp] theorem txLen_setChk (s : State) (c : Checksum) : (s.setChk c).txLen = s.txLen := rfl

/-- The frame comes from the TX_* registers and TXVAL. -/
theorem requestFrame_setChk (s : State) (c : Checksum) : (s.setChk c).requestFrame = s.requestFrame := by
  simp only [State.requestFrame, State.txValue, txLen_setChk, State.setChk_tx, State.memRead_setChk]

theorem encodeFrame_setChk (s : State) (c : Checksum) : encodeFrame (s.setChk c) = (encodeFrame s).setChk c := by
  unfold encodeFrame
  rw [requestFrame_setChk, txLen_setChk, State.setChk_cfg]
  split <;> rfl

theorem decodeStart_setChk (s : State) (c : Checksum) : decodeStart (s.setChk c) = (decodeStart s).setChk c := by
  unfold decodeStart
  rw [State.setChk_rxCap, State.setChk_cfg]
  split <;> rfl

/-- A receive step commutes with a change of the registers the decoder does not use. -/
theorem receiveStep_withHostSide (h : receiveStep ev s = .next t) (c : Checksum) (d : Descriptor) (r : Half)
    (m : Memory) : receiveStep ev (s.withHostSide c d r m) = .next (t.withHostSide c d r m) := by
  have hs : (s.withHostSide c d r m).status = s.status := rfl
  unfold receiveStep
  rcases receiveStep_cases h with ⟨hp, rfl⟩ | ⟨hp, rfl⟩ | ⟨hp, rfl⟩
  · rw [hs, hp, ← seek_withHostSide]
  · rw [hs, hp, ← header_withHostSide]
  · rw [hs, hp, ← body_withHostSide]

/-- So does the block's turn. -/
theorem receiveTurn_withHostSide (h : receiveTurn s = .next t) (c : Checksum) (d : Descriptor) (r : Half)
    (m : Memory) : receiveTurn (s.withHostSide c d r m) = .next (t.withHostSide c d r m) := by
  have hs : (s.withHostSide c d r m).status = s.status := rfl
  have ha : (s.withHostSide c d r m).rxAnswers = s.rxAnswers := rfl
  unfold receiveTurn
  rw [hs, ha]
  rcases receiveTurn_cases h with ⟨rfl, hb | hn⟩ | ⟨ev, evs, hb, hn, hstep⟩
  · rw [hb]
    rfl
  · rw [hn]
    split <;> rfl
  · rw [hb, hn]
    exact receiveStep_withHostSide hstep c d r m

/-- The block's turn beside another CHK: the other registers on the host's side stay as they are. -/
theorem receiveTurn_setChk (h : receiveTurn s = .next t) (c : Checksum) :
    receiveTurn (s.setChk c) = .next (t.setChk c) := by
  have hf := receiveTurn_frame h
  have ht : t.withHostSide c s.tx s.rxCap s.txval = t.setChk c := by
    rw [← show t.tx = s.tx from hf.tx, ← show t.rxCap = s.rxCap from hf.rxCap, ← show t.txval = s.txval from hf.txval]
    rfl
  rw [← ht]
  exact receiveTurn_withHostSide h c s.tx s.rxCap s.txval

/-- A step that changes CHK is a reset or the CMD write of a command that writes it. -/
theorem step_changes_chk (h : step s = .next t) (hc : t.chk ≠ s.chk) :
    (∃ rest, s.agenda = .reset :: rest) ∨
    (∃ w rest, s.atCmdWrite w rest ∧ (decodeWord w = some .chkInit ∨ ∃ b, decodeWord w = some (.chkByte b))) := by
  rcases step_commandRegs h with ⟨rest, ha, -⟩ | ⟨_, _, _, _, rfl⟩ | ⟨w, rest, i, hw, hb, hi, he⟩ | hk
  · exact .inl ⟨rest, ha⟩
  · exact absurd rfl hc
  · rcases exec_changes_chk (s := s.setAgenda rest) hb he hc with rfl | ⟨b, rfl⟩
    · exact .inr ⟨w, rest, hw, .inl hi⟩
    · exact .inr ⟨w, rest, hw, .inr ⟨b, hi⟩⟩
  · exact absurd hk.chk hc

/-- Settles O15: CHK's layout, who changes it, and the three meanings that commute with a change of it. -/
theorem onlyChecksumCommandsChangeChk : Obligations.OnlyChecksumCommandsChangeChk := by
  refine ⟨fun s => ?_, fun s t => step_changes_chk, fun s t c => ⟨?_, ?_, ?_⟩⟩
  · rw [busRead_chk, checksumWord_toNat]
  · rintro ⟨⟩
    exact congrArg _ (issue_setChk (encodeFrame_setChk s c))
  · rintro ⟨⟩
    exact congrArg _ (issue_setChk (decodeStart_setChk s c))
  · exact fun h => receiveTurn_setChk h c

end Sys2Proof.Machine
end

section
/-! PROOFS. A window's word is the four bytes at its offset, least significant first (20_memory.md R53, R55; O39). -/

namespace Sys2Proof.Machine

open Sys2Proof

variable {s : State} {m : MemId} {offset i k : Nat}

/-! Which byte of which memory a window offset names (20_memory.md R54). -/

theorem windowAt_scratch (hk : k < 0x20000) : windowAt (0x20000 + k) = some (.scratch, k) := by
  rw [windowAt, if_pos (by omega), Nat.add_sub_cancel_left]

theorem windowAt_txval (hk : k < 0x20000) : windowAt (0x40000 + k) = some (.txval, k) := by
  rw [windowAt, if_neg (by omega), if_pos (by omega), Nat.add_sub_cancel_left]

theorem windowAt_rxval (hk : k < 0x20000) : windowAt (0x60000 + k) = some (.rxval, k) := by
  rw [windowAt, if_neg (by omega), if_neg (by omega), if_pos (by omega), Nat.add_sub_cancel_left]

/-- The windows begin at 0x20000. -/
theorem le_of_windowAt (h : windowAt offset = some (m, i)) : 0x20000 ≤ offset := by
  by_contra hlt
  rw [windowAt, if_neg (by omega), if_neg (by omega), if_neg (by omega)] at h
  exact nomatch h

theorem Reg.offset_lt (r : Reg) : r.offset < 0x20000 := by cases r <;> decide

/-- The windows hold no register. -/
theorem regAt_of_windowAt (h : windowAt offset = some (m, i)) : regAt offset = none := by
  refine Option.eq_none_iff_forall_ne_some.2 fun r hr => ?_
  have hle := le_of_windowAt h
  have hlt := r.offset_lt
  rw [← regAt_eq_some hr] at hlt
  omega

/-! Host accesses at a window offset (20_memory.md R53). -/

theorem busRead_of_windowAt (h : windowAt offset = some (m, i)) :
    s.busRead offset = le32 (s.memRead m i 4) 0 := by
  rw [State.busRead, regAt_of_windowAt h, h]

theorem busWrite_of_windowAt_txval (h : windowAt offset = some (.txval, i)) (v : Word) :
    s.busWrite offset v = s.storeBytes .txval i (bytesLe v 4) := by
  rw [State.busWrite, regAt_of_windowAt h, h]

theorem busWrite_of_windowAt_readOnly (h : windowAt offset = some (m, i)) (hm : m ≠ .txval) (v : Word) :
    s.busWrite offset v = s := by
  rw [State.busWrite, regAt_of_windowAt h, h]
  cases m with
  | txval => exact absurd rfl hm
  | scratch | rxval => rfl

/-! The bytes of a word. -/

/-- `le32` is the four bytes side by side, the first in bits [7:0]. -/
theorem le32_eq_append (bs : List Byte) (i : Nat) :
    le32 bs i = byteOf bs (i + 3) ++ byteOf bs (i + 2) ++ byteOf bs (i + 1) ++ byteOf bs i := by
  refine BitVec.eq_of_getLsbD_eq fun j hj => ?_
  rw [le32, BitVec.getLsbD_append, BitVec.getLsbD_append, BitVec.getLsbD_append]
  interval_cases j <;> simp

theorem le32_memRead (s : State) (m : MemId) (i : Nat) :
    le32 (s.memRead m i 4) 0 =
      s.byteAt m (i + 3) ++ s.byteAt m (i + 2) ++ s.byteAt m (i + 1) ++ s.byteAt m i := by
  rw [le32_eq_append, State.byteOf_memRead (by omega), State.byteOf_memRead (by omega),
    State.byteOf_memRead (by omega), State.byteOf_memRead (by omega)]
  rfl

theorem bytesLe_getD {w n : Nat} (v : BitVec w) (hi : i < n) : (bytesLe v n).getD i 0 = v.extractLsb' (8 * i) 8 := by
  simp [bytesLe, List.getD_eq_getElem?_getD, hi]

/-- A byte at or past the end of its memory (20_memory.md R55). -/
theorem byteAt_of_memSize_le (h : s.memSize m ≤ i) : s.byteAt m i = 0 := if_neg (Nat.not_lt.2 h)

/-- The bytes of a word stored at `k`, read back: byte `k + i` is bits [8i+7:8i] where it is inside the memory. -/
theorem byteAt_storeBytes_bytesLe (v : Word) (j : Nat) :
    (s.storeBytes m k (bytesLe v 4)).byteAt m j =
      if k ≤ j ∧ j < k + 4 ∧ j < s.memSize m then v.extractLsb' (8 * (j - k)) 8 else s.byteAt m j := by
  rw [State.byteAt_storeBytes, bytesLe_length]
  split
  · exact bytesLe_getD v (by omega)
  · rfl

/-- Settles O39: a window read is `le32` of the memory, a TXVAL write stores the word's bytes, and the read-only windows
ignore it. -/
theorem windowsReadAndWriteLittleEndian : Obligations.WindowsReadAndWriteLittleEndian := by
  intro s v k hk _
  have hscratch := windowAt_scratch hk
  have htxval := windowAt_txval hk
  have hrxval := windowAt_rxval hk
  refine ⟨?_, ?_, ?_, fun m i => byteAt_of_memSize_le, fun j => ?_, ?_, ?_, ?_⟩
  · rw [busRead_of_windowAt hscratch, le32_memRead]
  · rw [busRead_of_windowAt htxval, le32_memRead]
  · rw [busRead_of_windowAt hrxval, le32_memRead]
  · rw [busWrite_of_windowAt_txval htxval]
    exact byteAt_storeBytes_bytesLe v j
  · rw [busWrite_of_windowAt_txval htxval]
    rfl
  · exact busWrite_of_windowAt_readOnly hscratch nofun v
  · exact busWrite_of_windowAt_readOnly hrxval nofun v

end Sys2Proof.Machine
end

section
/-! PROOFS. A command is its OP and its DATA, and a word decodes to it exactly if its four fields say so; legality and
the rows of the opcode map follow (30_encoding.md R65-R69; O2, O4). -/

namespace Sys2Proof

variable {w v : Word} {i j : Instr}

/-- OP of a command's row (30_encoding.md R69). -/
def Instr.op : Instr → Nat
  | .chkInit   => 1
  | .chkByte _ => 2
  | .encode    => 3
  | .decode    => 4
  | .asInt     => 5
  | .asFloat   => 6

/-- DATA of a command's word: 0 but for CHK_BYTE (30_encoding.md R66, R67). -/
def Instr.data : Instr → Byte
  | .chkByte b => b
  | .chkInit | .encode | .decode | .asInt | .asFloat => 0

theorem Instr.op_bounds (i : Instr) : 1 ≤ i.op ∧ i.op ≤ 6 := by cases i <;> simp [Instr.op]

theorem Instr.op_eq_four_iff : i.op = 4 ↔ i = .decode := by cases i <;> simp [Instr.op]

/-- Only CHK_BYTE carries DATA. -/
theorem Instr.data_eq_zero (i : Instr) : i.data = 0 ∨ i.op = 2 := by
  cases i with
  | chkByte _ => exact .inr rfl
  | chkInit | encode | decode | asInt | asFloat => exact .inl rfl

/-- Every OP and DATA that R66 allows are those of a command. -/
theorem Instr.exists_op_data {n : Nat} {b : Byte} (hn : 1 ≤ n ∧ n ≤ 6) (hb : b = 0 ∨ n = 2) :
    ∃ i : Instr, n = i.op ∧ b = i.data := by
  rcases hb with rfl | rfl
  · obtain ⟨h1, h6⟩ := hn
    interval_cases n
    exacts [⟨.chkInit, rfl, rfl⟩, ⟨.chkByte 0, rfl, rfl⟩, ⟨.encode, rfl, rfl⟩, ⟨.decode, rfl, rfl⟩,
      ⟨.asInt, rfl, rfl⟩, ⟨.asFloat, rfl, rfl⟩]
  · exact ⟨.chkByte b, rfl, rfl⟩

/-! The fields of a word, as the decoder and as R66 write them. -/

theorem opField_toNat (w : Word) : (opField w).toNat = bitsOf w 3 0 := rfl

theorem lowReservedField_eq_zero_iff : lowReservedField w = 0#4 ↔ bitsOf w 7 4 = 0 := BitVec.toNat_inj.symm

theorem highReservedField_eq_zero_iff : highReservedField w = 0#16 ↔ bitsOf w 31 16 = 0 := BitVec.toNat_inj.symm

theorem dataField_eq_zero_iff : dataField w = 0#8 ↔ bitsOf w 15 8 = 0 := BitVec.toNat_inj.symm

theorem legal_iff : legal w = true ↔ (1 ≤ bitsOf w 3 0 ∧ bitsOf w 3 0 ≤ 6) ∧
    (bitsOf w 7 4 = 0 ∧ bitsOf w 31 16 = 0) ∧ (bitsOf w 15 8 = 0 ∨ bitsOf w 3 0 = 2) := by
  simp only [legal, opIsCommand, reservedAreZero, dataIsUsed, Bool.and_eq_true, Bool.or_eq_true, decide_eq_true_eq,
    and_assoc]

/-! The decoder by the fields. -/

theorem withoutData_eq_ok_iff : withoutData w i = .ok j ↔ dataField w = 0#8 ∧ i = j := by
  unfold withoutData
  split <;> simp [*]

theorem decodeOp_eq_ok_iff : decodeOp w = .ok i ↔ (opField w).toNat = i.op ∧ dataField w = i.data := by
  constructor
  · intro h
    unfold decodeOp at h
    split at h
    case h_2 hop =>
      cases h
      exact ⟨hop, rfl⟩
    case h_7 => exact nomatch h
    all_goals
      obtain ⟨hdata, rfl⟩ := withoutData_eq_ok_iff.1 h
      exact ⟨‹_›, hdata⟩
  · rintro ⟨hop, hdata⟩
    unfold decodeOp
    rw [hop]
    cases i with
    | chkByte b => exact congrArg (fun d => Except.ok (Instr.chkByte d)) hdata
    | chkInit | encode | decode | asInt | asFloat => exact withoutData_eq_ok_iff.2 ⟨hdata, rfl⟩

/-- A word decodes to a command exactly if OP and DATA are the command's and the reserved bits are 0. -/
theorem decodeWord_eq_some_iff : decodeWord w = some i ↔
    (bitsOf w 3 0 = i.op ∧ dataField w = i.data) ∧ bitsOf w 7 4 = 0 ∧ bitsOf w 31 16 = 0 := by
  have hok : decodeWord w = some i ↔ decode w = .ok i := by
    unfold decodeWord
    split <;> simp [*]
  rw [hok, decode, ← opField_toNat, ← decodeOp_eq_ok_iff, ← lowReservedField_eq_zero_iff,
    ← highReservedField_eq_zero_iff]
  split <;> simp [*]

/-- Settles O2: the OP and DATA of a word are those of a command exactly if R66 allows them. -/
theorem legalWordsAreExactlyTheDecodedOnes : Obligations.LegalWordsAreExactlyTheDecodedOnes := by
  intro w
  rw [Option.isSome_iff_exists]
  constructor
  · rintro ⟨i, hi⟩
    obtain ⟨⟨hop, hdata⟩, hres⟩ := decodeWord_eq_some_iff.1 hi
    rw [← dataField_eq_zero_iff, hop, hdata]
    exact ⟨i.op_bounds, hres, i.data_eq_zero⟩
  · rintro ⟨hop, hres, hdata⟩
    rw [← dataField_eq_zero_iff] at hdata
    obtain ⟨i, hi⟩ := Instr.exists_op_data hop hdata
    exact ⟨i, decodeWord_eq_some_iff.2 ⟨hi, hres⟩⟩

/-! The rows of the opcode map. -/

/-- A word is its four fields, the most significant first (30_encoding.md R65). -/
theorem eq_append_fields (w : Word) :
    w = highReservedField w ++ dataField w ++ lowReservedField w ++ opField w := by
  unfold highReservedField dataField lowReservedField opField
  rw [BitVec.extractLsb'_append_extractLsb'_eq_extractLsb' (rfl : 16 = 8 + 8),
    BitVec.extractLsb'_append_extractLsb'_eq_extractLsb' (rfl : 8 = 4 + 4),
    BitVec.extractLsb'_append_extractLsb'_eq_extractLsb' (rfl : 4 = 0 + 4)]
  exact BitVec.extractLsb'_eq_self.symm

/-- Only a command's own word decodes to it. -/
theorem decodeWord_eq_some_iff_eq_encode : decodeWord w = some i ↔ w = encode i := by
  refine ⟨fun h => ?_, fun h => h ▸ Machine.decodeWord_encode i⟩
  obtain ⟨⟨hop, hdata⟩, hlow, hhigh⟩ := decodeWord_eq_some_iff.1 h
  obtain ⟨⟨hop', hdata'⟩, hlow', hhigh'⟩ := decodeWord_eq_some_iff.1 (Machine.decodeWord_encode i)
  have hop : opField w = opField (encode i) := BitVec.eq_of_toNat_eq (hop.trans hop'.symm)
  rw [eq_append_fields w, eq_append_fields (encode i), hop, hdata, hdata', lowReservedField_eq_zero_iff.2 hlow,
    lowReservedField_eq_zero_iff.2 hlow', highReservedField_eq_zero_iff.2 hhigh, highReservedField_eq_zero_iff.2 hhigh']

/-- The row of a command without DATA: its mask takes every bit. -/
theorem decodeWord_eq_some_iff_and_allOnes : decodeWord w = some i ↔ w &&& 0xFFFFFFFF#32 = encode i := by
  rw [decodeWord_eq_some_iff_eq_encode, show w &&& 0xFFFFFFFF#32 = w from BitVec.and_allOnes]

/-- A field that a mask takes whole is the match's. -/
theorem extractLsb'_eq_of_and_eq {m : Word} {start len : Nat} (hm : m.extractLsb' start len = BitVec.allOnes len)
    (h : w &&& m = v) : w.extractLsb' start len = v.extractLsb' start len := by
  rw [← h, BitVec.extractLsb'_and, hm, BitVec.and_allOnes]

/-- The row of CHK_BYTE: its mask leaves DATA free. -/
theorem exists_decodeWord_eq_chkByte_iff :
    (∃ b, decodeWord w = some (.chkByte b)) ↔ w &&& 0xFFFF00FF#32 = 0x00000002#32 := by
  constructor
  · rintro ⟨b, hb⟩
    rw [decodeWord_eq_some_iff_eq_encode.1 hb]
    exact (Laws.OpcodeRow.chkByte b).1
  · intro h
    have hop : opField w = 2#4 := extractLsb'_eq_of_and_eq rfl h
    have hlow : lowReservedField w = 0#4 := extractLsb'_eq_of_and_eq rfl h
    have hhigh : highReservedField w = 0#16 := extractLsb'_eq_of_and_eq rfl h
    exact ⟨dataField w, decodeWord_eq_some_iff.2 ⟨⟨congrArg BitVec.toNat hop, rfl⟩,
      lowReservedField_eq_zero_iff.1 hlow, highReservedField_eq_zero_iff.1 hhigh⟩⟩

/-- Settles O4: the masks of the rows, and no command has OP 0 or 7..15. -/
theorem opcodeMapRowsDecideTheCommand : Obligations.OpcodeMapRowsDecideTheCommand := by
  intro w
  refine ⟨decodeWord_eq_some_iff_and_allOnes, exists_decodeWord_eq_chkByte_iff, fun b hb => ?_,
    decodeWord_eq_some_iff_and_allOnes, decodeWord_eq_some_iff_and_allOnes, decodeWord_eq_some_iff_and_allOnes,
    decodeWord_eq_some_iff_and_allOnes, fun hop => ?_⟩
  · obtain ⟨⟨-, hdata⟩, -⟩ := decodeWord_eq_some_iff.1 hb
    exact hdata.symm
  · refine Option.eq_none_iff_forall_ne_some.2 fun i hi => ?_
    obtain ⟨⟨hi, -⟩, -⟩ := decodeWord_eq_some_iff.1 hi
    have := i.op_bounds
    omega

end Sys2Proof
end

section
/-! PROOFS. The dispatch of a CMD write by OP, and which command leaves a DECODE running (30_encoding.md R71; O6). -/

namespace Sys2Proof.Machine

open Sys2Proof

variable {s t : State} {w : Word} {i : Instr}

/-- A legal word is decoded by its OP alone; DATA is looked at for CHK_BYTE only. -/
theorem decodeWord_of_legal (hl : legal w = true) (hop : bitsOf w 3 0 = i.op)
    (hdata : ∀ b, i = .chkByte b → dataField w = b) : decodeWord w = some i := by
  obtain ⟨-, hres, hzero⟩ := legal_iff.1 hl
  refine decodeWord_eq_some_iff.2 ⟨⟨hop, ?_⟩, hres⟩
  cases i with
  | chkByte b => exact hdata b rfl
  | chkInit | encode | decode | asInt | asFloat =>
    exact dataField_eq_zero_iff.2 (hzero.resolve_right (by rw [hop]; decide))

theorem decodeWord_of_not_legal (hl : legal w = false) : decodeWord w = none := by
  refine Option.not_isSome_iff_eq_none.1 fun h => ?_
  exact absurd (legal_iff.2 ((legalWordsAreExactlyTheDecodedOnes w).1 h)) (by simp [hl])

theorem exists_decodeWord_of_legal (hl : legal w = true) : ∃ i, decodeWord w = some i :=
  Option.isSome_iff_exists.1 ((legalWordsAreExactlyTheDecodedOnes w).2 (legal_iff.1 hl))

theorem commandWrite_busy (hb : s.status.busy = true) : commandWrite w s = .next s.busyFault := if_pos hb

theorem commandWrite_of_not_legal (hb : s.status.busy = false) (hl : legal w = false) :
    commandWrite w s = .next (illegalCommand s) := by
  simp [commandWrite, dispatchCommand, hb, decodeWord_of_not_legal hl]

theorem encodeFrame_busy (s : State) : (encodeFrame s).status.busy = false := by
  unfold encodeFrame
  split <;> rfl

theorem decodeStart_busy_iff (s : State) :
    (decodeStart s).status.busy = true ↔ s.rxCap.toNat ≤ s.cfg.rxvalBytes := by
  unfold decodeStart
  split
  case isTrue hcap => exact iff_of_false nofun (Nat.not_le.2 hcap)
  case isFalse hcap => exact iff_of_true rfl (Nat.le_of_not_gt hcap)

/-- Of the commands only a DECODE that starts is not over in its own step. -/
theorem exec_idle_busy_iff (hb : s.status.busy = false) (h : exec i s = .next t) :
    t.status.busy = true ↔ i = .decode ∧ s.rxCap.toNat ≤ s.cfg.rxvalBytes := by
  rw [exec_idle hb, Host.Outcome.next.injEq] at h
  subst h
  cases i with
  | decode => simp [decodeStart_busy_iff]
  | encode => simp [encodeFrame_busy]
  | chkInit | chkByte _ | asInt | asFloat => exact ⟨nofun, fun hd => nomatch hd.1⟩

/-- Settles O6: a legal word decodes to the command of its OP, and every command answers a next state. -/
theorem cmdWriteDispatch : Obligations.CmdWriteDispatch := by
  intro s w rest hw
  rw [step_cmdWrite hw]
  refine ⟨commandWrite_busy (s := s.setAgenda rest), commandWrite_of_not_legal (s := s.setAgenda rest),
    fun hb hl => ?_⟩
  have run (i : Instr) (hdata : ∀ b, i = .chkByte b → dataField w = b) (hop : bitsOf w 3 0 = i.op) :
      commandWrite w (s.setAgenda rest) = exec i (s.setAgenda rest) :=
    commandWrite_of_decodeWord (decodeWord_of_legal hl hop hdata)
  refine ⟨run .chkInit nofun, run (.chkByte _) fun b h => Instr.chkByte.inj h, run .encode nofun, run .decode nofun,
    run .asInt nofun, run .asFloat nofun, ?_⟩
  obtain ⟨i, hi⟩ := exists_decodeWord_of_legal hl
  obtain ⟨t, ht⟩ := exec_next i (s.setAgenda rest)
  obtain ⟨⟨hop, -⟩, -⟩ := decodeWord_eq_some_iff.1 hi
  refine ⟨t, (commandWrite_of_decodeWord hi).trans ht, ?_⟩
  rw [hop, Instr.op_eq_four_iff]
  exact exec_idle_busy_iff (s := s.setAgenda rest) hb ht

end Sys2Proof.Machine
end

section
/-! PROOFS. What the checksum comes to: its closed form, and how it depends on one byte (40_checksum.md R89-R91; O13,
O14). -/

namespace Sys2Proof.Machine

open Sys2Proof

variable (pre post bs : List Byte) (b c : Byte)

theorem natCast_byte_toNat : ((b.toNat : Nat) : Byte) = b := by simp

/-- The sum mod 256 is the sum of the numbers, as a byte. -/
theorem sum_eq_natCast : bs.sum = ((bs.map fun b => b.toNat).sum : Nat) := by
  induction bs with
  | nil => rfl
  | cons b bs ih => rw [List.map_cons, List.sum_cons, List.sum_cons, ih, Nat.cast_add, natCast_byte_toNat]

/-- A byte sequence weighted from its end: the last byte counts once, the first as often as there are bytes
(40_checksum.md R89). -/
def weightedSum (bs : List Byte) : Nat :=
  ((List.range bs.length).map fun i => (bs.length - i) * (byteOf bs i).toNat).sum

theorem weightedSum_cons : weightedSum (b :: bs) = (bs.length + 1) * b.toNat + weightedSum bs := by
  simp [weightedSum, List.range_succ_eq_map, byteOf, Function.comp_def]

/-- B ends as its start, plus the starting A once per byte, plus the weighted bytes. -/
theorem foldl_checksumByte_b (k : Checksum) :
    (bs.foldl checksumByte k).b = k.b + (bs.length : Byte) * k.a + (weightedSum bs : Byte) := by
  induction bs generalizing k with
  | nil => simp [weightedSum]
  | cons b bs ih =>
    rw [List.foldl_cons, ih, weightedSum_cons, List.length_cons]
    simp only [checksumByte, Nat.cast_add, Nat.cast_mul, Nat.cast_one, natCast_byte_toNat]
    ring

/-- A is 0xFF plus the bytes (40_checksum.md R89). -/
theorem checksum_a : (checksum bs).a = ((0xFF + (bs.map fun b => b.toNat).sum : Nat) : Byte) := by
  rw [checksum, foldl_checksumByte_a, sum_eq_natCast, Nat.cast_add]
  rfl

/-- B is 0xFF once per byte plus the weighted bytes (40_checksum.md R89). -/
theorem checksum_b : (checksum bs).b = ((bs.length * 0xFF + weightedSum bs : Nat) : Byte) := by
  rw [checksum, foldl_checksumByte_b, Nat.cast_add, Nat.cast_mul]
  exact congrArg (· + _) (BitVec.zero_add _)

/-- Settles O13: the closed forms, read as numbers; 00 01 and 01 00 show that the order counts. -/
theorem checksumClosedForm : Obligations.ChecksumClosedForm := by
  refine ⟨fun bs => ⟨?_, ?_⟩, [], 0x00, 0x01, by decide⟩
  · rw [checksum_a]
    exact BitVec.toNat_ofNat ..
  · rw [checksum_b]
    exact BitVec.toNat_ofNat ..

/-! Sequences that differ in one byte. -/

/-- A tells any two values of a byte apart (40_checksum.md R90). -/
theorem checksum_a_inj : (checksum (pre ++ b :: post)).a = (checksum (pre ++ c :: post)).a ↔ b = c := by
  simp [checksum, foldl_checksumByte_a, checksumByte]

/-- The byte counts in B once for itself and once for each byte after it. -/
theorem checksum_b_sub :
    (checksum (pre ++ b :: post)).b - (checksum (pre ++ c :: post)).b = ((post.length + 1 : Nat) : Byte) * (b - c) := by
  simp only [checksum_append, foldl_checksumByte_b, weightedSum_cons, List.length_cons, Nat.cast_add, Nat.cast_mul,
    natCast_byte_toNat]
  ring

theorem natCast_mul_eq_zero_iff (n : Nat) : ((n : Nat) : Byte) * b = 0 ↔ n * b.toNat % 256 = 0 := by
  rw [← BitVec.toNat_inj, ← natCast_byte_toNat b, ← Nat.cast_mul, natCast_byte_toNat]
  exact Eq.congr_left (BitVec.toNat_ofNat ..)

/-- Each zero byte keeps A and adds it to B. -/
theorem foldl_checksumByte_replicate_zero (n : Nat) (k : Checksum) :
    (List.replicate n 0x00).foldl checksumByte k = { a := k.a, b := k.b + (n : Byte) * k.a } := by
  induction n generalizing k with
  | zero => simp
  | succ n ih =>
    rw [List.replicate_succ, List.foldl_cons, ih, Nat.cast_succ]
    simp only [checksumByte, show k.a + 0x00 = k.a from BitVec.add_zero _, add_mul, one_mul]
    exact congrArg (Checksum.mk k.a) (by ring)

/-- Settles O14: A determines the byte, and the B's differ by a multiple of its change; 256 zero bytes come back to the
initial state. -/
theorem oneChangedByteChangesA : Obligations.OneChangedByteChangesA := by
  refine ⟨fun pre post b c hbc => ⟨?_, ?_⟩, rfl, ?_⟩
  · exact mt (checksum_a_inj pre post b c).1 hbc
  · rw [← sub_eq_zero, checksum_b_sub, natCast_mul_eq_zero_iff]
  · exact foldl_checksumByte_replicate_zero 256 checksumInit

end Sys2Proof.Machine
end

section
/-! PROOFS. CHK_INIT and CHK_BYTE issued one by one, and as a sequence of CMD writes (40_checksum.md R92-R94; O10, O11,
O12). -/

namespace Sys2Proof

open Sys2Proof.Machine

/-- The commands of the checksum unit (40_checksum.md R92, R93). -/
def Instr.onChecksum : Instr → Prop
  | .chkInit | .chkByte _ => True
  | .encode | .decode | .asInt | .asFloat => False

/-- CHK after a command; only those of the checksum unit change it. -/
def Instr.chkAfter (c : Checksum) : Instr → Checksum
  | .chkInit   => checksumInit
  | .chkByte b => checksumByte c b
  | .encode | .decode | .asInt | .asFloat => c

namespace Machine

variable {s : State} {i : Instr} {a : Action} {w : Word} {rest : List Action} {o : BitVec 20} {n : Nat}
  {f : Word → State → Out}

/-- A command of the checksum unit writes CHK and finishes OK. -/
theorem exec_onChecksum (hi : i.onChecksum) (hb : s.status.busy = false) :
    exec i s = .next { s with chk := i.chkAfter s.chk, status := s.status.ended .ok } := by
  rw [exec_idle hb]
  cases i with
  | chkInit | chkByte _ => rfl
  | encode | decode | asInt | asFloat => exact hi.elim

/-- Settles O10: the word of CHK_INIT is its encoding, and the CHK it leaves does not depend on the one before. -/
theorem chkInitResetsTheChecksumUnit : Obligations.ChkInitResetsTheChecksumUnit := by
  have run (s : State) (hb : s.status.busy = false) := exec_onChecksum (i := .chkInit) trivial hb
  refine ⟨decodeWord_encode .chkInit, fun w hop hw => ?_, run, fun s t hb h => ?_, fun s hb => exec_busy hb⟩
  · refine Option.eq_none_iff_forall_ne_some.2 fun i hi => ?_
    obtain ⟨⟨hi', -⟩, -⟩ := decodeWord_eq_some_iff.1 hi
    cases i with
    | chkInit => exact hw (decodeWord_eq_some_iff_eq_encode.1 hi)
    | chkByte _ | encode | decode | asInt | asFloat => exact nomatch hop.symm.trans hi'
  · rw [run s hb, Host.Outcome.next.injEq] at h
    subst h
    exact run _ rfl

/-- The word of CHK_BYTE as R93 writes it: OP 2 and the byte from bit 8 on. -/
theorem encode_chkByte_eq_or (b : Byte) : b.zeroExtend 32 <<< 8 ||| 0x00000002#32 = encode (.chkByte b) := by
  refine BitVec.eq_of_getLsbD_eq fun k hk => ?_
  rw [Laws.OpcodeRow.encode_chkByte_getLsbD]
  interval_cases k <;> simp

/-- The sums of CHK_BYTE as numbers mod 256 (40_checksum.md R93). -/
theorem checksumByte_eq_mod (c : Checksum) (b : Byte) :
    checksumByte c b =
      { a := BitVec.ofNat 8 ((c.a.toNat + b.toNat) % 256)
        b := BitVec.ofNat 8 ((c.b.toNat + (c.a.toNat + b.toNat) % 256) % 256) } := by
  have add_eq (x y : Byte) : x + y = BitVec.ofNat 8 ((x.toNat + y.toNat) % 256) :=
    BitVec.eq_of_toNat_eq (by simp)
  rw [checksumByte, add_eq c.b, BitVec.toNat_add, add_eq c.a]

/-- Settles O11: CHK_BYTE is one byte of the checksum function, its sums read as numbers. -/
theorem chkByteAdvancesTheChecksumUnit : Obligations.ChkByteAdvancesTheChecksumUnit := by
  refine ⟨fun b => ?_, fun s b hb => ?_, fun s b hb => exec_busy hb⟩
  · rw [encode_chkByte_eq_or, decodeWord_encode]
  · rw [← checksumByte_eq_mod]
    exact exec_onChecksum (i := .chkByte b) trivial hb

/-! A word access is not refused. -/

theorem hostAccess_read (hx : (Access.read o n).wf = true) :
    hostAccess f (.read o n) s = .next (s.setBusData (s.busRead o.toNat)) := by
  obtain ⟨hword, haligned⟩ := Bool.and_eq_true_iff.1 hx
  simp [hostAccess, hword, haligned]

theorem hostAccess_write {v : Word} (hx : (Access.write o n v).wf = true) :
    hostAccess f (.write o n v) s =
      if regAt o.toNat = some .cmd then f v s else .next (s.busWrite o.toNat v) := by
  obtain ⟨hword, haligned⟩ := Bool.and_eq_true_iff.1 hx
  simp [hostAccess, hword, haligned]

/-! One quiet action: the CMD write of a command, or one that leaves CHK and STATUS as they are. -/

theorem receiveTurn_idle (hb : s.status.busy = false) : receiveTurn s = .next s := by simp [receiveTurn, hb]

/-- A step with an action to come is that action. -/
theorem step_of_agenda (ha : s.agenda = a :: rest) : step s = act commandWrite a (s.setAgenda rest) := by
  unfold step turn
  rw [ha]

theorem step_of_commandWord (ha : s.agenda = a :: rest) (hq : a.quiet = true) (hc : a.commandWord = some w) :
    step s = commandWrite w (s.setAgenda rest) := by
  rw [step_of_agenda ha]
  cases a with
  | host x =>
    cases x with
    | read _ _ => exact nomatch hc
    | write o n v =>
      obtain ⟨ho, hv⟩ := Option.ite_none_right_eq_some.1 hc
      rw [act, hostAccess_write hq, if_pos (regAt_cmd.2 ho), Option.some.inj hv]
  | receive | arrive _ | transmit _ _ | reset => exact nomatch hc

/-- The CMD write of a command of the checksum unit while no DECODE runs. -/
theorem step_of_checksumCommand (hb : s.status.busy = false) (ha : s.agenda = a :: rest) (hq : a.quiet = true)
    (hc : a.commandWord = some (encode i)) (hi : i.onChecksum) :
    ∃ t, step s = .next t ∧ t.agenda = rest ∧ t.chk = i.chkAfter s.chk ∧ t.status = s.status.ended .ok := by
  rw [step_of_commandWord ha hq hc, commandWrite_of_decodeWord (decodeWord_encode i)]
  exact ⟨_, exec_onChecksum (s := s.setAgenda rest) hi hb, rfl, rfl, rfl⟩

/-- While no DECODE runs, a quiet action that writes no command keeps CHK and STATUS. -/
theorem step_of_no_commandWord (hb : s.status.busy = false) (ha : s.agenda = a :: rest) (hq : a.quiet = true)
    (hc : a.commandWord = none) :
    ∃ t, step s = .next t ∧ t.agenda = rest ∧ t.chk = s.chk ∧ t.status = s.status := by
  rw [step_of_agenda ha]
  cases a with
  | host x =>
    cases x with
    | read _ _ => exact ⟨_, hostAccess_read (f := commandWrite) hq, rfl, rfl, rfl⟩
    | write o n v =>
      have ho : regAt o.toNat ≠ some .cmd := fun h => by
        rw [regAt_cmd.1 h] at hc
        exact nomatch hc
      refine ⟨_, (hostAccess_write hq).trans (if_neg ho), ?_⟩
      rw [State.busWrite_shape]
      exact ⟨rfl, rfl, rfl⟩
  | receive => exact ⟨_, receiveTurn_idle (s := s.setAgenda rest) hb, rfl, rfl, rfl⟩
  | arrive _ | transmit _ _ => exact ⟨_, rfl, rfl, rfl, rfl⟩
  | reset => exact nomatch hq

/-! The run over a list of quiet actions. -/

theorem run_succ_of_step {t : State} (h : step s = .next t) (k : Nat) :
    Host.Core.run Sys2Proof.core (k + 1) s = Host.Core.run Sys2Proof.core k t := by
  have hcore : Sys2Proof.core.step s = .next t := h
  simp only [Host.Core.run, hcore]

/-- Quiet actions whose commands are those of the checksum unit leave in CHK what the commands make of it one after the
other, whatever stands between them. -/
theorem run_onChecksum {cs : List Instr} {acts : List Action} (hb : s.status.busy = false)
    (ha : s.agenda = acts ++ rest) (hq : ∀ a ∈ acts, a.quiet = true)
    (hc : acts.filterMap Action.commandWord = cs.map encode) (hcs : ∀ i ∈ cs, i.onChecksum) :
    ∃ t, Host.Core.run Sys2Proof.core acts.length s = .next t ∧ t.agenda = rest ∧
      t.chk = cs.foldl Instr.chkAfter s.chk ∧ t.status = if cs = [] then s.status else s.status.ended .ok := by
  induction acts generalizing s cs with
  | nil =>
    obtain rfl : cs = [] := List.map_eq_nil_iff.1 hc.symm
    exact ⟨s, rfl, ha, rfl, rfl⟩
  | cons a acts ih =>
    rw [List.cons_append] at ha
    obtain ⟨hqa, hq⟩ := List.forall_mem_cons.1 hq
    cases hw : a.commandWord with
    | none =>
      rw [List.filterMap_cons_none hw] at hc
      obtain ⟨u, hu, hagenda, hchk, hstatus⟩ := step_of_no_commandWord hb ha hqa hw
      rw [List.length_cons, run_succ_of_step hu, ← hchk, ← hstatus]
      exact ih (hstatus ▸ hb) hagenda hq hc hcs
    | some w =>
      rw [List.filterMap_cons_some hw] at hc
      obtain ⟨i, cs, rfl, rfl, htail⟩ := List.map_eq_cons_iff.1 hc.symm
      obtain ⟨hi, hcs⟩ := List.forall_mem_cons.1 hcs
      obtain ⟨u, hu, hagenda, hchk, hstatus⟩ := step_of_checksumCommand hb ha hqa hw hi
      obtain ⟨t, ht, hagenda, hchk', hstatus'⟩ := ih (by rw [hstatus]; rfl) hagenda hq htail.symm hcs
      refine ⟨t, (run_succ_of_step hu _).trans ht, hagenda, ?_, ?_⟩
      · rw [hchk', hchk, List.foldl_cons]
      · rw [hstatus', hstatus, if_neg (List.cons_ne_nil i cs)]
        exact ite_self _

/-- Settles O12: CHK_INIT brings CHK to the function's initial state, and each CHK_BYTE takes one byte in. -/
theorem commandSequenceComputesTheChecksum : Obligations.CommandSequenceComputesTheChecksum := by
  intro s bs acts rest hb hq hc
  have hcs : ∀ i ∈ Instr.chkInit :: bs.map Instr.chkByte, i.onChecksum := by simp [Instr.onChecksum]
  obtain ⟨t, hrun, hagenda, hchk, hstatus⟩ := run_onChecksum (s := s.setAgenda (acts ++ rest)) hb rfl hq hc hcs
  refine ⟨t, hrun, hagenda, ?_, hstatus⟩
  rw [hchk, List.foldl_cons, List.foldl_map]
  rfl

end Machine
end Sys2Proof
end

section
/-! PROOFS. ENCODE: the frame of the descriptor in SCRATCH, and exactly which frames are refused (41_encoder.md R96, R97;
O16, O17). -/

namespace Sys2Proof.Machine

open Sys2Proof

variable {s : State} {m : MemId} {i : Nat} {bs : List Byte}

/-- A memory reads as `bs` from index `i` on. -/
def State.holds (s : State) (m : MemId) (i : Nat) (bs : List Byte) : Prop := s.memRead m i bs.length = bs

/-! What a memory holds, in parts. -/

theorem State.memRead_add (s : State) (m : MemId) (i k l : Nat) :
    s.memRead m i (k + l) = s.memRead m i k ++ s.memRead m (i + k) l := by
  simp [State.memRead, List.range_add, Nat.add_assoc]

theorem State.holds_append {cs : List Byte} :
    s.holds m i (bs ++ cs) ↔ s.holds m i bs ∧ s.holds m (i + bs.length) cs := by
  unfold State.holds
  rw [List.length_append, State.memRead_add]
  exact ⟨fun h => List.append_inj h State.memRead_length, fun ⟨hb, hc⟩ => by rw [hb, hc]⟩

theorem State.holds_singleton {b : Byte} : s.holds m i [b] ↔ s.byteAt m i = b := by
  simp [State.holds, State.memRead]

theorem State.holds_storeBytes (h : i + bs.length ≤ s.memSize m) : (s.storeBytes m i bs).holds m i bs :=
  State.memRead_storeBytes h

theorem State.holds_checksumBytes {c : Checksum} :
    s.holds m i c.bytes ↔ c = { a := s.byteAt m i, b := s.byteAt m (i + 1) } := by
  cases c
  simp [State.holds, State.memRead, Checksum.bytes, List.range_succ, eq_comm]

/-! The lengths of a frame and its parts. -/

theorem headerBytes_length (flags : Byte) (src dest : Word) (bodyLen : Half) :
    (headerBytes flags src dest bodyLen).length = 11 := rfl

theorem propertyBody_length (flags service : Byte) (objType : Half) (objId : Word) (propId : Half) (value : List Byte) :
    (propertyBody flags service objType objId propId value).length = 10 + value.length := by
  simp only [propertyBody, List.length_append, bytesLe_length, List.length_cons, List.length_nil]

theorem frameOf_length (hdr body : List Byte) : (frameOf hdr body).length = hdr.length + body.length + 5 := by
  simp only [frameOf, Checksum.bytes, List.length_append, List.length_cons, List.length_nil]
  omega

@[simp] theorem txValue_length (s : State) : s.txValue.length = s.txLen := State.memRead_length

theorem requestFrame_length (s : State) : s.requestFrame.length = 26 + s.txLen := by
  rw [State.requestFrame, frameOf_length, headerBytes_length, propertyBody_length, txValue_length]
  omega

theorem txLen_lt (s : State) : s.txLen < 65536 := s.tx.valueLen.isLt

/-! The two ends of ENCODE. -/

/-- A frame that does not fit is refused before anything is written (41_encoder.md R97). -/
theorem encodeFrame_refused (h : 26 + s.txLen > s.cfg.frameBufCap) :
    encodeFrame s = { s with txFrameLen := 0, status := s.status.ended .bufferTooSmall } := if_pos h

/-- What ENCODE does with a frame that fits (41_encoder.md R96). -/
theorem encodeFrame_accepted (h : 26 + s.txLen ≤ s.cfg.frameBufCap) :
    encodeFrame s = { s with scratch := (s.storeBytes .scratch 0 s.requestFrame).scratch
                             txFrameLen := BitVec.ofNat 17 (26 + s.txLen)
                             status := s.status.ended .ok } := if_neg (Nat.not_lt.2 h)

theorem byteAt_scratch_encodeFrame_accepted (h : 26 + s.txLen ≤ s.cfg.frameBufCap) (j : Nat) :
    (encodeFrame s).byteAt .scratch j = (s.storeBytes .scratch 0 s.requestFrame).byteAt .scratch j := by
  rw [encodeFrame_accepted h]
  exact State.byteAt_congr rfl rfl rfl

theorem encodeFrame_txFrameLen (h : 26 + s.txLen ≤ s.cfg.frameBufCap) :
    (encodeFrame s).txFrameLen.toNat = 26 + s.txLen := by
  have hlt := txLen_lt s
  rw [encodeFrame_accepted h, BitVec.toNat_ofNat]
  omega

/-- The host finds the whole frame in SCRATCH, and its length is 26 + N (41_encoder.md R96). -/
theorem memRead_scratch_encodeFrame (h : 26 + s.txLen ≤ s.cfg.frameBufCap) :
    (encodeFrame s).memRead .scratch 0 (26 + s.txLen) = s.requestFrame := by
  have hfit : 0 + s.requestFrame.length ≤ s.memSize .scratch := by
    rw [requestFrame_length, Nat.zero_add]
    exact h
  rw [State.memRead_congr (byteAt_scratch_encodeFrame_accepted h), ← requestFrame_length]
  exact State.memRead_storeBytes hfit

/-- Settles O16: the two ends of ENCODE, and the frame read back from SCRATCH. -/
theorem encodeBuildsTheFrameOfTheDescriptor : Obligations.EncodeBuildsTheFrameOfTheDescriptor := by
  refine ⟨decodeWord_encode .encode, fun s hb => exec_busy hb, fun s hb => ⟨fun hfit => ?_, fun hbig => ?_⟩⟩
  · refine ⟨encodeFrame s, exec_idle hb, memRead_scratch_encodeFrame hfit, fun j hj => ?_, ?_⟩
    · rw [byteAt_scratch_encodeFrame_accepted hfit]
      refine State.byteAt_storeBytes_outside (.inr ?_)
      rw [requestFrame_length, Nat.zero_add]
      exact hj
    · rw [encodeFrame_accepted hfit]
      rfl
  · rw [exec_idle hb, encodeFrame_refused hbig]

/-- Settles O17: the outcome tells the two ends of ENCODE apart; an accepted N is at most FRAME_BUF_CAP - 26. -/
theorem encodeRefusesExactlyTheFramesThatDoNotFit : Obligations.EncodeRefusesExactlyTheFramesThatDoNotFit := by
  intro s t hb ht
  rw [exec_idle hb, Host.Outcome.next.injEq] at ht
  subst ht
  rcases Nat.lt_or_ge s.cfg.frameBufCap (26 + s.txLen) with hbig | hfit
  · have hout : (encodeFrame s).status.outcome = .bufferTooSmall := by rw [encodeFrame_refused hbig]; rfl
    refine ⟨iff_of_true hout hbig, fun _ => ?_, fun hne => absurd hout hne⟩
    rw [encodeFrame_refused hbig]
    exact ⟨rfl, fun j => State.byteAt_congr rfl rfl rfl⟩
  · have hout : (encodeFrame s).status.outcome ≠ .bufferTooSmall := by rw [encodeFrame_accepted hfit]; nofun
    refine ⟨iff_of_false hout (Nat.not_lt.2 hfit), fun h => absurd h hout, fun _ => ?_⟩
    have hcap := s.cfg.frameBufCap_le
    have hbody : 10 + s.txLen ≤ 65535 := by omega
    have hlen := encodeFrame_txFrameLen hfit
    exact ⟨hbody, Nat.le_sub_of_add_le' hfit, hlen, hlen.trans_le hfit⟩

end Sys2Proof.Machine
end

section
/-! PROOFS. A whole frame received by a running DECODE: what is stored, and the CLASSIFY it comes to
(42_decoder.md R107-R113). -/

namespace Sys2Proof.Machine

open Sys2Proof

variable {s t : State} {b : Byte} {bs hdr bdy : List Byte} {evs : List RxEvent}

theorem State.DecoderFrame.setAnswers (h : s.DecoderFrame t) (evs : List RxEvent) :
    (s.setAnswers evs).DecoderFrame (t.setAnswers evs) := { h with rxAnswers := rfl }

/-! Bytes stored one after the other. -/

/-- Received bytes go to the next frame positions (42_decoder.md R108, R113). -/
def storeFrameBytes (bs : List Byte) (s : State) : State := bs.foldl (fun u b => storeFrameByte b u) s

theorem storeFrameBytes_cons (b : Byte) (bs : List Byte) (s : State) :
    storeFrameBytes (b :: bs) s = storeFrameBytes bs (storeFrameByte b s) := rfl

/-- Storing bytes changes SCRATCH and dec_pos alone. -/
theorem storeFrameBytes_shape (bs : List Byte) (s : State) :
    storeFrameBytes bs s =
      { s with scratch := (storeFrameBytes bs s).scratch, decPos := (storeFrameBytes bs s).decPos } := by
  induction bs generalizing s with
  | nil => rfl
  | cons b bs ih =>
    rw [storeFrameBytes_cons, ih]
    rfl

@[simp] theorem storeFrameBytes_status (bs : List Byte) (s : State) : (storeFrameBytes bs s).status = s.status := by
  rw [storeFrameBytes_shape]

@[simp] theorem storeFrameBytes_rx (bs : List Byte) (s : State) : (storeFrameBytes bs s).rx = s.rx := by
  rw [storeFrameBytes_shape]

@[simp] theorem storeFrameBytes_cfg (bs : List Byte) (s : State) : (storeFrameBytes bs s).cfg = s.cfg := by
  rw [storeFrameBytes_shape]

theorem storeFrameBytes_decoderFrame (bs : List Byte) (s : State) : s.DecoderFrame (storeFrameBytes bs s) := by
  rw [storeFrameBytes_shape]
  exact ⟨rfl, rfl, rfl, rfl, rfl, rfl, rfl, rfl, rfl, rfl, rfl, rfl, rfl, rfl, rfl, rfl⟩

/-- SCRATCH starts with the bytes `bs` of the frame received so far, and dec_pos is their number. -/
structure State.received (s : State) (bs : List Byte) : Prop where
  holds  : s.holds .scratch 0 bs
  decPos : s.decPos.toNat = bs.length

theorem storeFrameByte_received (h : s.received bs) (hfit : bs.length < s.cfg.frameBufCap) :
    (storeFrameByte b s).received (bs ++ [b]) := by
  have hcap := s.cfg.frameBufCap_le
  have hbyte (j : Nat) : (storeFrameByte b s).byteAt .scratch j = if j = bs.length then b else s.byteAt .scratch j := by
    rw [byteAt_storeFrameByte (by rw [h.decPos]; exact hfit), h.decPos]
  have hold : (storeFrameByte b s).memRead .scratch 0 bs.length = s.memRead .scratch 0 bs.length := by
    refine List.map_congr_left fun k hk => ?_
    have hk := List.mem_range.1 hk
    rw [hbyte, if_neg (by omega)]
  refine ⟨State.holds_append.2 ⟨hold.trans h.holds, State.holds_singleton.2 ?_⟩, ?_⟩
  · rw [hbyte, if_pos (Nat.zero_add _)]
  · rw [storeFrameByte_decPos (by rw [h.decPos]; omega), h.decPos, List.length_append, List.length_singleton]

theorem storeFrameBytes_received {pre : List Byte} (h : s.received pre)
    (hfit : pre.length + bs.length ≤ s.cfg.frameBufCap) : (storeFrameBytes bs s).received (pre ++ bs) := by
  induction bs generalizing s pre with
  | nil => rwa [List.append_nil]
  | cons b bs ih =>
    rw [List.length_cons] at hfit
    rw [List.append_cons]
    refine ih (storeFrameByte_received h (by omega)) ?_
    rw [List.length_append, List.length_singleton, Nat.add_assoc, Nat.add_comm 1]
    exact hfit

/-! The block's turns over a run of bytes. -/

/-- A run in two parts. -/
theorem run_add {M : Host.Core} {x y : M.State} {k : Nat} (h : M.run k x = .next y) (l : Nat) :
    M.run (k + l) x = M.run l y := by
  induction k generalizing x with
  | zero =>
    cases h
    rw [Nat.zero_add]
  | succ k ih =>
    rw [Nat.succ_add]
    rw [Host.Core.run] at h ⊢
    cases hx : M.step x with
    | next z =>
      rw [hx] at h
      exact ih h
    | fault r => rw [hx] at h; cases h
    | refused r => rw [hx] at h; cases h

theorem step_setAnswers_cons (ha : s.agenda = []) (hb : s.status.busy = true) (ev : RxEvent) (evs : List RxEvent) :
    step (s.setAnswers (ev :: evs)) = receiveStep ev (s.setAnswers evs) := by
  rw [step_receives (s := s.setAnswers (ev :: evs)) (rest := []) ⟨.inl ⟨ha, rfl⟩, hb, rfl⟩, ← ha]
  rfl

/-- Where the span that is being received ends: the header checksum or the body checksum (42_decoder.md R108, R113). -/
def State.spanEnd (s : State) : Nat :=
  match s.status.phase with
  | .readHeader => 14
  | .readBody   => 16 + s.rx.bodyLen.toNat
  | .idle | .seekStart | .validateHeader | .validateBody => 0

theorem spanEnd_le (s : State) : s.spanEnd ≤ 65551 := by
  have := s.rx.bodyLen.isLt
  unfold State.spanEnd
  split <;> omega

/-- The validation of the span that is being received (42_decoder.md R108, R113). -/
def validateSpan (s : State) : State :=
  match s.status.phase with
  | .readHeader => validateHeader s
  | .readBody   => validateBody s
  | .idle | .seekStart | .validateHeader | .validateBody => s

/-- One byte of a span: it is stored, and the one that completes the span starts its validation. -/
theorem step_byte (ha : s.agenda = []) (hb : s.status.busy = true) (h : s.decPos.toNat < s.spanEnd) :
    step (s.setAnswers (.byte b :: evs)) = .next
      (if s.decPos.toNat + 1 = s.spanEnd then validateSpan ((storeFrameByte b s).setAnswers evs)
        else (storeFrameByte b s).setAnswers evs) := by
  have hend := spanEnd_le s
  have hpos : ((storeFrameByte b s).setAnswers evs).decPos.toNat = s.decPos.toNat + 1 :=
    storeFrameByte_decPos (s := s) (b := b) (by omega)
  have hstore : storeFrameByte b (s.setAnswers evs) = (storeFrameByte b s).setAnswers evs := rfl
  have hphase : (storeFrameByte b s).status.phase = s.status.phase := rfl
  rw [step_setAnswers_cons ha hb]
  cases hp : s.status.phase with
  | readHeader =>
    simp only [receiveStep, header, validateSpan, State.spanEnd, State.setAnswers_status, hstore, hphase, hp]
    rw [hpos]
  | readBody =>
    simp only [receiveStep, body, validateSpan, State.spanEnd, State.setAnswers_status, hstore, hphase, hp]
    rw [hpos]
    rfl
  | idle | seekStart | validateHeader | validateBody =>
    simp only [State.spanEnd, hp] at h
    exact absurd h (Nat.not_lt_zero _)

/-- The bytes of a span, the last one included: all are stored, and the span is validated. -/
theorem run_span (ha : s.agenda = []) (hb : s.status.busy = true) (hne : bs ≠ [])
    (h : s.decPos.toNat + bs.length = s.spanEnd) (evs : List RxEvent) :
    Host.Core.run core bs.length (s.setAnswers (bs.map .byte ++ evs)) =
      .next (validateSpan ((storeFrameBytes bs s).setAnswers evs)) := by
  have hend := spanEnd_le s
  induction bs generalizing s with
  | nil => exact absurd rfl hne
  | cons b bs ih =>
    rw [List.length_cons] at h
    have hstep := step_byte (b := b) (evs := bs.map .byte ++ evs) ha hb (by omega)
    refine (run_succ_of_step hstep _).trans ?_
    cases bs with
    | nil => exact congrArg _ (if_pos h)
    | cons c bs =>
      rw [List.length_cons] at h
      have hpos := storeFrameByte_decPos (s := s) (b := b) (by omega)
      rw [if_neg (by omega)]
      refine ih (s := storeFrameByte b s) ha hb (List.cons_ne_nil c bs) ?_ hend
      rw [hpos, List.length_cons, Nat.add_right_comm]
      exact h

theorem run_headerSpan (ha : s.agenda = []) (hb : s.status.busy = true) (hp : s.status.phase = .readHeader)
    (hne : bs ≠ []) (h : s.decPos.toNat + bs.length = 14) (evs : List RxEvent) :
    Host.Core.run core bs.length (s.setAnswers (bs.map .byte ++ evs)) =
      .next (validateHeader ((storeFrameBytes bs s).setAnswers evs)) := by
  have hend : s.spanEnd = 14 := by rw [State.spanEnd, hp]
  rw [run_span ha hb hne (h.trans hend.symm), validateSpan, State.setAnswers_status, storeFrameBytes_status, hp]

theorem run_bodySpan (ha : s.agenda = []) (hb : s.status.busy = true) (hp : s.status.phase = .readBody)
    (hne : bs ≠ []) (h : s.decPos.toNat + bs.length = 16 + s.rx.bodyLen.toNat) (evs : List RxEvent) :
    Host.Core.run core bs.length (s.setAnswers (bs.map .byte ++ evs)) =
      .next (validateBody ((storeFrameBytes bs s).setAnswers evs)) := by
  have hend : s.spanEnd = 16 + s.rx.bodyLen.toNat := by rw [State.spanEnd, hp]
  rw [run_span ha hb hne (h.trans hend.symm), validateSpan, State.setAnswers_status, storeFrameBytes_status, hp]

/-! A span with its checksum in SCRATCH is valid. -/

theorem State.received.setAnswers (h : s.received bs) (evs : List RxEvent) : (s.setAnswers evs).received bs :=
  ⟨h.holds, h.decPos⟩

/-- A header whose body fits is latched and accepted (42_decoder.md R110-R112). -/
theorem validateHeader_of_received (h : s.received ([startMarker] ++ (hdr ++ (checksum hdr).bytes)))
    (hlen : hdr.length = 11) (hfit : 16 + (le16 hdr 9).toNat ≤ s.cfg.frameBufCap) :
    validateHeader s = (latchHeader hdr s).setPhase .readBody := by
  obtain ⟨-, hspan⟩ := State.holds_append.1 h.holds
  obtain ⟨hhdr, hchk⟩ := State.holds_append.1 hspan
  rw [State.holds_checksumBytes, hlen] at hchk
  rw [State.holds, hlen] at hhdr
  have hread : s.memRead .scratch 1 11 = hdr := hhdr
  rw [validateHeader, hread]
  exact (if_pos hchk).trans (if_neg (Nat.not_lt.2 hfit))

/-- A body is classified (42_decoder.md R113). -/
theorem validateBody_of_received {pre : List Byte} (h : s.received (pre ++ (bdy ++ (checksum bdy).bytes)))
    (hpre : pre.length = 14) (hlen : s.rx.bodyLen.toNat = bdy.length) : validateBody s = classify bdy s := by
  obtain ⟨-, hspan⟩ := State.holds_append.1 h.holds
  obtain ⟨hbdy, hchk⟩ := State.holds_append.1 hspan
  rw [State.holds_checksumBytes, hpre, Nat.zero_add, Nat.add_right_comm] at hchk
  rw [State.holds, hpre, Nat.zero_add] at hbdy
  rw [validateBody, hlen, hbdy]
  exact if_pos hchk

/-! The three parts of a frame: the start marker, the header span and the body span. -/

/-- A span of a frame: bytes and their checksum (30_encoding.md R74). -/
def spanOf (bs : List Byte) : List Byte := bs ++ (checksum bs).bytes

theorem spanOf_length (bs : List Byte) : (spanOf bs).length = bs.length + 2 := List.length_append

theorem spanOf_ne_nil (bs : List Byte) : spanOf bs ≠ [] := by
  rw [← List.length_pos_iff, spanOf_length]
  omega

theorem frameOf_eq_spans (hdr bdy : List Byte) : frameOf hdr bdy = [startMarker] ++ spanOf hdr ++ spanOf bdy := by
  simp only [frameOf, spanOf, List.append_assoc]

/-- The start marker found (42_decoder.md R107). -/
theorem seek_startMarker (s : State) : seek (.byte startMarker) s =
    ((s.storeBytes .scratch 0 [startMarker]).setDecPos 1).setPhase .readHeader := by
  unfold seek
  exact if_pos rfl

theorem seek_startMarker_received (s : State) : (seek (.byte startMarker) s).received [startMarker] := by
  have hfit : 0 + [startMarker].length ≤ s.memSize .scratch := le_trans (by decide) s.cfg.frameBufCap_ge
  rw [seek_startMarker]
  refine ⟨?_, rfl⟩
  rw [State.holds, State.memRead_setPhase, State.memRead_setDecPos]
  exact State.memRead_storeBytes hfit

theorem run_startMarker (ha : s.agenda = []) (hb : s.status.busy = true) (hp : s.status.phase = .seekStart)
    (evs : List RxEvent) :
    Host.Core.run core 1 (s.setAnswers (.byte startMarker :: evs)) =
      .next ((seek (.byte startMarker) s).setAnswers evs) := by
  refine run_succ_of_step ?_ 0
  rw [step_setAnswers_cons ha hb, receiveStep, State.setAnswers_status, hp]
  rfl

/-- The state after the start marker and a header span, before it is validated. -/
def headerStored (hdr : List Byte) (s : State) : State := storeFrameBytes (spanOf hdr) (seek (.byte startMarker) s)

theorem headerStored_received (hlen : hdr.length = 11) (s : State) :
    (headerStored hdr s).received ([startMarker] ++ spanOf hdr) := by
  refine storeFrameBytes_received (seek_startMarker_received s) ?_
  rw [spanOf_length, hlen]
  exact le_trans (by decide) s.cfg.frameBufCap_ge

/-- The state in READ_BODY after the start marker and a header span (42_decoder.md R111, R112). -/
def headerAccepted (hdr : List Byte) (s : State) : State := (latchHeader hdr (headerStored hdr s)).setPhase .readBody

theorem headerAccepted_received (hlen : hdr.length = 11) (s : State) :
    (headerAccepted hdr s).received ([startMarker] ++ spanOf hdr) :=
  have h := headerStored_received hlen s
  ⟨h.holds, h.decPos⟩

theorem headerAccepted_rx (hdr : List Byte) (s : State) : (headerAccepted hdr s).rx = (latchHeader hdr s).rx := by
  have hrx : (headerStored hdr s).rx = s.rx := by rw [headerStored, storeFrameBytes_rx, seek_startMarker]; rfl
  simp only [headerAccepted, latchHeader, State.setPhase_rx, State.setRx_rx, hrx]

theorem headerAccepted_decoderFrame (hdr : List Byte) (s : State) : s.DecoderFrame (headerAccepted hdr s) :=
  (seek_decoderFrame.trans (storeFrameBytes_decoderFrame ..)).trans
    ⟨rfl, rfl, rfl, rfl, rfl, rfl, rfl, rfl, rfl, rfl, rfl, rfl, rfl, rfl, rfl, rfl⟩

theorem headerAccepted_busy (hb : s.status.busy = true) : (headerAccepted hdr s).status.busy = true := by
  have hstatus : (headerStored hdr s).status = (s.setPhase .readHeader).status := by
    rw [headerStored, storeFrameBytes_status, seek_startMarker]
    rfl
  rw [headerAccepted, State.setPhase_busy, latchHeader, State.setRx_status, hstatus]
  exact hb

/-- The start marker and a header whose body fits bring a searching DECODE to READ_BODY. -/
theorem run_header (ha : s.agenda = []) (hb : s.status.busy = true) (hp : s.status.phase = .seekStart)
    (hlen : hdr.length = 11) (hfit : 16 + (le16 hdr 9).toNat ≤ s.cfg.frameBufCap) (evs : List RxEvent) :
    Host.Core.run core 14 (s.setAnswers (([startMarker] ++ spanOf hdr).map .byte ++ evs)) =
      .next ((headerAccepted hdr s).setAnswers evs) := by
  have hspan : (spanOf hdr).length = 13 := by rw [spanOf_length, hlen]
  have hcfg : (headerStored hdr s).cfg = s.cfg := storeFrameBytes_cfg ..
  have hrun := run_headerSpan (s := seek (.byte startMarker) s) ha hb rfl (spanOf_ne_nil hdr) (by rw [hspan]; rfl) evs
  have hvalid := validateHeader_of_received ((headerStored_received hlen s).setAnswers evs) hlen
    (by rw [State.setAnswers_cfg, hcfg]; exact hfit)
  rw [hspan] at hrun
  exact (run_add (k := 1) (run_startMarker ha hb hp _) 13).trans (hrun.trans (congrArg _ hvalid))

/-- The body span, after the 14 bytes before it, comes to CLASSIFY. -/
theorem run_body {pre : List Byte} (ha : s.agenda = []) (hb : s.status.busy = true) (hp : s.status.phase = .readBody)
    (hr : s.received pre) (hpre : pre.length = 14) (hlen : s.rx.bodyLen.toNat = bdy.length)
    (hfit : 16 + bdy.length ≤ s.cfg.frameBufCap) (evs : List RxEvent) :
    Host.Core.run core (bdy.length + 2) (s.setAnswers ((spanOf bdy).map .byte ++ evs)) =
      .next (classify bdy ((storeFrameBytes (spanOf bdy) s).setAnswers evs)) := by
  have hend : s.decPos.toNat + (spanOf bdy).length = 16 + s.rx.bodyLen.toNat := by
    rw [hr.decPos, spanOf_length, hpre, hlen]
    omega
  have hrec := storeFrameBytes_received (bs := spanOf bdy) hr (by rw [spanOf_length, hpre]; omega)
  rw [← spanOf_length, run_bodySpan ha hb hp (spanOf_ne_nil bdy) hend]
  refine congrArg _ (validateBody_of_received (hrec.setAnswers evs) hpre ?_)
  rw [State.setAnswers_rx, storeFrameBytes_rx, hlen]

/-- A frame whose body fits SCRATCH comes to the CLASSIFY of its body, with the header latched, after as many events as it
has bytes. -/
theorem run_frame (ha : s.agenda = []) (hb : s.status.busy = true) (hp : s.status.phase = .seekStart)
    (hlen : hdr.length = 11) (hbody : (le16 hdr 9).toNat = bdy.length) (hfit : 16 + bdy.length ≤ s.cfg.frameBufCap)
    (evs : List RxEvent) :
    ∃ u, Host.Core.run core (16 + bdy.length) (s.setAnswers ((frameOf hdr bdy).map .byte ++ evs)) =
        .next (classify bdy u) ∧
      u.rx = (latchHeader hdr s).rx ∧ (s.setAnswers evs).DecoderFrame u := by
  have hframe := headerAccepted_decoderFrame hdr s
  have hrx := headerAccepted_rx hdr s
  have hpre : ([startMarker] ++ spanOf hdr).length = 14 := by rw [List.length_append, spanOf_length, hlen]; rfl
  have hhdr := run_header ha hb hp hlen (by rw [hbody]; exact hfit) ((spanOf bdy).map .byte ++ evs)
  have hbdy := run_body (hframe.agenda.trans ha) (headerAccepted_busy hb) rfl (headerAccepted_received hlen s) hpre
    (by rw [hrx]; exact hbody) (by rw [hframe.cfg]; exact hfit) evs
  refine ⟨(storeFrameBytes (spanOf bdy) (headerAccepted hdr s)).setAnswers evs, ?_, ?_, ?_⟩
  · rw [frameOf_eq_spans, List.map_append, List.append_assoc, show 16 + bdy.length = 14 + (bdy.length + 2) by omega]
    exact (run_add hhdr _).trans hbdy
  · rw [State.setAnswers_rx, storeFrameBytes_rx, hrx]
  · exact (hframe.trans (storeFrameBytes_decoderFrame ..)).setAnswers evs

end Sys2Proof.Machine
end

section
/-! PROOFS. The frame ENCODE builds, received by a DECODE: as it is, and with the response bit set (41_encoder.md R103;
O30). -/

namespace Sys2Proof.Machine

open Sys2Proof

variable {s u : State} {hdr : List Byte}

/-! The header and the body of the descriptor's frame. -/

/-- The header ENCODE writes (41_encoder.md R98). -/
def State.requestHeader (s : State) : List Byte :=
  headerBytes 0x00 localAddr s.tx.dest (BitVec.ofNat 16 (10 + s.txLen))

/-- The body ENCODE writes, under the given body flags (41_encoder.md R99). -/
def State.bodyWith (s : State) (flags : Byte) : List Byte :=
  propertyBody flags s.tx.service s.tx.objType s.tx.objId s.tx.propId s.txValue

theorem requestFrame_eq (s : State) : s.requestFrame = frameOf s.requestHeader (s.bodyWith 0x00) := rfl

theorem bodyWith_length (s : State) (flags : Byte) : (s.bodyWith flags).length = 10 + s.txLen := by
  rw [State.bodyWith, propertyBody_length, txValue_length]

/-- The response to a frame keeps its header and the bytes after the body flags. -/
theorem asResponse_frameOf (hlen : hdr.length = 11) (flags : Byte) (rest : List Byte) :
    asResponse (frameOf hdr (flags :: rest)) = frameOf hdr (0x02#8 :: rest) := by
  have hpre : ([startMarker] ++ spanOf hdr).length = 14 := by rw [List.length_append, spanOf_length, hlen]; rfl
  have htake : (frameOf hdr (flags :: rest)).take 14 = [startMarker] ++ spanOf hdr := by
    rw [frameOf_eq_spans, List.take_left' hpre]
  have hdrop : (frameOf hdr (flags :: rest)).drop 15 = rest ++ (checksum (flags :: rest)).bytes := by
    rw [frameOf_eq_spans, ← List.drop_drop (i := 1) (j := 14), List.drop_left' hpre]
    rfl
  have hlast : (rest ++ (checksum (flags :: rest)).bytes).dropLast.dropLast = rest := by
    simp [Checksum.bytes, List.dropLast_append_of_ne_nil]
  rw [asResponse, htake, hdrop, hlast, frameOf_eq_spans, List.append_assoc]
  rfl

theorem asResponse_requestFrame (s : State) :
    asResponse s.requestFrame = frameOf s.requestHeader (s.bodyWith 0x02) := by
  rw [requestFrame_eq]
  exact asResponse_frameOf rfl _ _

/-! The fields of a header and of a property body, read from where the encoder puts them (30_encoding.md R75, R76). -/

section

variable (flags service : Byte) (src dest objId : Word) (bodyLen objType propId : Half) (value : List Byte)

theorem le32_headerBytes_src : le32 (headerBytes flags src dest bodyLen) 1 = src :=
  le32_bytesLe [flags] (bytesLe dest 4 ++ bytesLe bodyLen 2) src

theorem le32_headerBytes_dest : le32 (headerBytes flags src dest bodyLen) 5 = dest :=
  le32_bytesLe ([flags] ++ bytesLe src 4) (bytesLe bodyLen 2) dest

theorem le16_headerBytes_bodyLen : le16 (headerBytes flags src dest bodyLen) 9 = bodyLen :=
  le16_bytesLe ([flags] ++ bytesLe src 4 ++ bytesLe dest 4) [] bodyLen

theorem byteOf_propertyBody_flags : byteOf (propertyBody flags service objType objId propId value) 0 = flags := rfl

theorem byteOf_propertyBody_service : byteOf (propertyBody flags service objType objId propId value) 1 = service := rfl

theorem le16_propertyBody_objType : le16 (propertyBody flags service objType objId propId value) 2 = objType :=
  le16_bytesLe [flags, service] (bytesLe objId 4 ++ bytesLe propId 2 ++ value) objType

theorem le32_propertyBody_objId : le32 (propertyBody flags service objType objId propId value) 4 = objId :=
  le32_bytesLe ([flags, service] ++ bytesLe objType 2) (bytesLe propId 2 ++ value) objId

theorem le16_propertyBody_propId : le16 (propertyBody flags service objType objId propId value) 8 = propId :=
  le16_bytesLe ([flags, service] ++ bytesLe objType 2 ++ bytesLe objId 4) value propId

theorem drop_propertyBody : (propertyBody flags service objType objId propId value).drop 10 = value := rfl

end

theorem le16_requestHeader (h : 10 + s.txLen < 65536) : (le16 s.requestHeader 9).toNat = 10 + s.txLen := by
  rw [State.requestHeader, le16_headerBytes_bodyLen, BitVec.toNat_ofNat, Nat.mod_eq_of_lt h]

/-! What CLASSIFY makes of the descriptor's body. -/

/-- The body's fields are latched (42_decoder.md R114). -/
theorem latchObject_bodyWith (s u : State) (flags : Byte) :
    (latchObject (s.bodyWith flags) (latchBody (s.bodyWith flags) u)).rx =
      { u.rx with bodyFlags := flags, service := s.tx.service, objType := s.tx.objType, objId := s.tx.objId
                  propId := s.tx.propId } := by
  have hlen := bodyWith_length s flags
  simp only [latchObject, latchBody, State.setRx_rx, if_pos (show 1 ≤ (s.bodyWith flags).length by omega),
    if_pos (show 2 ≤ (s.bodyWith flags).length by omega)]
  simp only [State.bodyWith, byteOf_propertyBody_flags, byteOf_propertyBody_service, le16_propertyBody_objType,
    le32_propertyBody_objId, le16_propertyBody_propId]

/-- A value that fits is delivered: to RXVAL, with its length, and the DECODE is OK (42_decoder.md R118). -/
theorem deliver_fits {y : List Byte} (h : y.length - 10 ≤ u.decCap.toNat)
    (hcap : u.decCap.toNat ≤ u.cfg.rxvalBytes) :
    (deliver y u).status = u.status.ended .ok ∧
      (deliver y u).rx = { u.rx with valueLen := BitVec.ofNat 16 (y.length - 10) } ∧
      (deliver y u).memRead .rxval 0 (y.length - 10) = y.drop 10 := by
  unfold deliver
  rw [if_neg (Nat.not_lt.2 h)]
  refine ⟨rfl, rfl, ?_⟩
  rw [State.memRead_finish, State.memRead_setRx, ← List.length_drop]
  refine (State.holds_append.1 (State.holds_storeBytes ?_)).1
  change _ ≤ u.cfg.rxvalBytes
  rw [List.length_append, List.length_drop, Nat.zero_add]
  split
  · exact le_trans ‹_ < _› hcap
  · exact le_trans h hcap

/-- With the response bit set, a value that fits is delivered (42_decoder.md R117, R118). -/
theorem classify_bodyWith_response (hs : s.tx.service = 1#8 ∨ s.tx.service = 2#8) (h : s.txLen ≤ u.decCap.toNat)
    (hcap : u.decCap.toNat ≤ u.cfg.rxvalBytes) :
    (classify (s.bodyWith 0x02) u).status = u.status.ended .ok ∧
      (classify (s.bodyWith 0x02) u).rx =
        { u.rx with bodyFlags := 0x02, service := s.tx.service, objType := s.tx.objType, objId := s.tx.objId
                    propId := s.tx.propId, valueLen := s.tx.valueLen } ∧
      (classify (s.bodyWith 0x02) u).memRead .rxval 0 s.txLen = s.txValue := by
  have hlen : (s.bodyWith 0x02).length - 10 = s.txLen := by rw [bodyWith_length, Nat.add_sub_cancel_left]
  have hresponse : propertyResponse (s.bodyWith 0x02) := by
    refine ⟨by rw [bodyWith_length]; omega, ?_, ?_, hs⟩
    all_goals
      rw [State.bodyWith, byteOf_propertyBody_flags]
      rfl
  rcases classify_cases (s.bodyWith 0x02) u with ⟨hno, -⟩ | ⟨-, hdeliver⟩
  · exact absurd hresponse hno
  · obtain ⟨hstatus, hrx, hvalue⟩ := deliver_fits (y := s.bodyWith 0x02)
      (u := latchObject (s.bodyWith 0x02) (latchBody (s.bodyWith 0x02) u)) (by rw [hlen]; exact h) hcap
    rw [hlen, latchObject_bodyWith] at hrx
    rw [hlen, State.bodyWith, drop_propertyBody] at hvalue
    rw [hdeliver]
    refine ⟨hstatus, ?_, hvalue⟩
    rw [hrx, State.txLen, BitVec.ofNat_toNat, BitVec.setWidth_eq]

/-- As it stands it lacks the response bit and is a foreign request (42_decoder.md R116). -/
theorem classify_bodyWith_request (s u : State) :
    (classify (s.bodyWith 0x00) u).status = u.status.ended .foreignRequest := by
  have hlen := bodyWith_length s 0x00
  have hflags : byteOf (s.bodyWith 0x00) 0 = 0x00 := rfl
  unfold classify classifyLatched
  rw [if_neg (by omega), hflags, if_neg (by decide), if_pos (by decide)]
  rfl

/-! ENCODE, then DECODE. -/

/-- A DECODE whose RX_CAP fits RXVAL starts (42_decoder.md R104). -/
theorem decodeStart_accepted (h : s.rxCap.toNat ≤ s.cfg.rxvalBytes) :
    decodeStart s = { s with
      rx := RxRegs.zero
      decCap := s.rxCap
      decPos := 0
      status := { s.status with outcome := .none, phase := .seekStart, busy := true } } := if_neg (Nat.not_lt.2 h)

/-- A DECODE started right after an ENCODE that built its frame (42_decoder.md R104). -/
def State.decodingAfterEncode (s : State) : State :=
  { s with
    scratch    := (s.storeBytes .scratch 0 s.requestFrame).scratch
    txFrameLen := BitVec.ofNat 17 (26 + s.txLen)
    rx         := RxRegs.zero
    decCap     := s.rxCap
    decPos     := 0
    status     := { s.status with outcome := .none, phase := .seekStart, busy := true } }

theorem decodeStart_encodeFrame (hfit : 26 + s.txLen ≤ s.cfg.frameBufCap)
    (hcap : s.rxCap.toNat ≤ s.cfg.rxvalBytes) :
    decodeStart (encodeFrame s) = s.decodingAfterEncode := by
  rw [encodeFrame_accepted hfit]
  exact decodeStart_accepted hcap

/-- The descriptor's frame, under any body flags, comes to the CLASSIFY of its body in that DECODE. -/
theorem run_descriptorFrame (ha : s.agenda = []) (hfit : 26 + s.txLen ≤ s.cfg.frameBufCap)
    (hcap : s.rxCap.toNat ≤ s.cfg.rxvalBytes) (flags : Byte) :
    ∃ u, Host.Core.run core (26 + s.txLen)
          ((decodeStart (encodeFrame s)).setAnswers ((frameOf s.requestHeader (s.bodyWith flags)).map .byte)) =
        .next (classify (s.bodyWith flags) u) ∧
      u.rx.src = localAddr ∧ u.rx.dest = s.tx.dest ∧ u.cfg = s.cfg ∧ u.decCap = s.rxCap ∧ u.rxAnswers = [] ∧
      u.status.faultBusy = s.status.faultBusy := by
  have hmax := s.cfg.frameBufCap_le
  have hlen := bodyWith_length s flags
  have hbody := (le16_requestHeader (s := s) (by omega)).trans hlen.symm
  have hspan : 16 + (s.bodyWith flags).length ≤ s.cfg.frameBufCap := by omega
  obtain ⟨u, hrun, hrx, hframe⟩ := run_frame (s := s.decodingAfterEncode) ha rfl rfl rfl hbody hspan []
  rw [hlen, List.append_nil, ← Nat.add_assoc] at hrun
  have hsrc : u.rx.src = localAddr := (congrArg RxRegs.src hrx).trans (le32_headerBytes_src ..)
  have hdest : u.rx.dest = s.tx.dest := (congrArg RxRegs.dest hrx).trans (le32_headerBytes_dest ..)
  rw [decodeStart_encodeFrame hfit hcap]
  exact ⟨u, hrun, hsrc, hdest, hframe.cfg, hframe.decCap, hframe.rxAnswers, hframe.faultBusy⟩

theorem Status.ended_congr {x y : Status} (h : x.faultBusy = y.faultBusy) (c : OutcomeCode) :
    x.ended c = y.ended c := by
  rw [Status.ended, Status.ended, h]

/-- Settles O30: both frames come to the CLASSIFY of the descriptor's body, which delivers the value of the one with the
response bit and takes the other for a foreign request. -/
theorem encodedFrameRoundTrip : Obligations.EncodedFrameRoundTrip := by
  intro s hb ha hfit hs hn hcap
  have hok : (encodeFrame s).status.outcome = .ok := by rw [encodeFrame_accepted hfit]; rfl
  have hlen : (encodeFrame s).txFrameLen.toNat = 26 + s.txLen := encodeFrame_txFrameLen hfit
  have hread : (encodeFrame s).memRead .scratch 0 (26 + s.txLen) = s.requestFrame := memRead_scratch_encodeFrame hfit
  obtain ⟨u, hrun, hsrc, hdest, hcfg, hdecCap, hanswers, hfault⟩ := run_descriptorFrame ha hfit hcap 0x02
  obtain ⟨v, hraw, -, -, -, -, -, hrawFault⟩ := run_descriptorFrame ha hfit hcap 0x00
  obtain ⟨hstatus, hrx, hvalue⟩ := classify_bodyWith_response (u := u) hs (by rw [hdecCap]; exact hn)
    (by rw [hdecCap, hcfg]; exact hcap)
  refine ⟨encodeFrame s, decodeStart (encodeFrame s), classify (s.bodyWith 0x02) u, classify (s.bodyWith 0x00) v,
    exec_idle hb, hok, exec_idle (encodeFrame_busy s), ?_⟩
  rw [hlen, hread, asResponse_requestFrame, requestFrame_eq, hrx]
  refine ⟨hrun, hstatus.trans (Status.ended_congr hfault _), ?_, hsrc, hdest, rfl, rfl, rfl, rfl, rfl, hvalue,
    hraw, ?_⟩
  · exact classify_decoderFrame.rxAnswers.trans hanswers
  · exact (classify_bodyWith_request s v).trans (Status.ended_congr hrawFault _)

end Sys2Proof.Machine
end

section
/-! PROOFS. DECODE's start step, and the receive step of each phase up to the end of its span (42_decoder.md R104-R113;
O19, O21, O22, O23, O24). -/

namespace Sys2Proof.Machine

open Sys2Proof

variable {s : State} {b : Byte} {ev : RxEvent} {evs : List RxEvent} {rest : List Action} {i len : Nat}

/-- A DECODE whose RX_CAP exceeds RXVAL is refused (42_decoder.md R105). -/
theorem decodeStart_refused (h : s.rxCap.toNat > s.cfg.rxvalBytes) : decodeStart s = s.finish .illegalCommand := if_pos h

/-- Settles O19: the two ends of the start step. -/
theorem decodeStartStep : Obligations.DecodeStartStep := by
  refine ⟨decodeWord_encode .decode, fun s hb => exec_busy hb, fun s hb => ⟨fun hcap => ?_, fun hcap => ?_⟩⟩
  · rw [exec_idle hb, decodeStart_accepted hcap]
    rfl
  · rw [exec_idle hb, decodeStart_refused hcap]
    rfl

/-! The event a running DECODE receives, by phase (42_decoder.md R106). -/

theorem step_receives_seekStart (h : s.receives ev evs rest) (hp : s.status.phase = .seekStart) :
    step s = .next (seek ev ((s.setAgenda rest).setAnswers evs)) := by
  rw [step_receives h, receiveStep, State.setAnswers_status, State.setAgenda_status, hp]

theorem step_receives_readHeader (h : s.receives ev evs rest) (hp : s.status.phase = .readHeader) :
    step s = .next (header ev ((s.setAgenda rest).setAnswers evs)) := by
  rw [step_receives h, receiveStep, State.setAnswers_status, State.setAgenda_status, hp]

theorem step_receives_readBody (h : s.receives ev evs rest) (hp : s.status.phase = .readBody) :
    step s = .next (body ev ((s.setAgenda rest).setAnswers evs)) := by
  rw [step_receives h, receiveStep, State.setAnswers_status, State.setAgenda_status, hp]

/-! SEEK_START (42_decoder.md R107). -/

theorem seek_of_ne_startMarker (h : b ≠ startMarker) : seek (.byte b) s = s := if_neg h

theorem byteAt_seek_startMarker (j : Nat) :
    (seek (.byte startMarker) s).byteAt .scratch j = if j = 0 then startMarker else s.byteAt .scratch j := by
  have hcap : 26 ≤ s.memSize .scratch := s.cfg.frameBufCap_ge
  rw [seek_startMarker, State.byteAt_setPhase, State.byteAt_setDecPos, State.byteAt_storeBytes, List.length_singleton]
  by_cases hj : j = 0
  · rw [if_pos hj, if_pos (by omega), hj]
    rfl
  · rw [if_neg hj, if_neg (by omega)]

/-- Taking the start marker writes SCRATCH, dec_pos and PHASE alone. -/
theorem seek_startMarker_shape (s : State) :
    ∃ cells, seek (.byte startMarker) s =
      { s with scratch := cells, decPos := 1, status := { s.status with phase := .readHeader } } :=
  ⟨_, seek_startMarker s⟩

/-- Settles O21: SEEK's four arms. -/
theorem seekStartDiscardsUntilTheMarker : Obligations.SeekStartDiscardsUntilTheMarker := by
  intro s ev evs rest h hp
  rw [step_receives_seekStart h hp]
  refine ⟨?_, ?_, ?_, ?_⟩
  · rintro rfl
    refine ⟨_, rfl, byteAt_seek_startMarker 0, fun j hj => ?_, ?_⟩
    · exact (byteAt_seek_startMarker j).trans (if_neg hj)
    · obtain ⟨cells, hshape⟩ := seek_startMarker_shape ((s.setAgenda rest).setAnswers evs)
      rw [show 0xAA#8 = startMarker from rfl, hshape]
      rfl
  · rintro b rfl hb
    rw [seek_of_ne_startMarker hb]
    rfl
  · rintro rfl
    rfl
  · rintro rfl
    rfl

/-! A byte stored in a span, and the span read back. -/

/-- The bytes before dec_pos are not touched by the next one. -/
theorem memRead_storeFrameByte (h : i + len ≤ s.decPos.toNat) (hfit : s.decPos.toNat < s.cfg.frameBufCap) :
    (storeFrameByte b s).memRead .scratch i len = s.memRead .scratch i len := by
  refine List.map_congr_left fun k hk => ?_
  have hk := List.mem_range.1 hk
  rw [byteAt_storeFrameByte hfit, if_neg (by omega)]

/-- Taking a byte of a span writes SCRATCH and dec_pos alone. -/
theorem storeFrameByte_shape (s : State) (b : Byte) (rest : List Action) (evs : List RxEvent) :
    ∃ cells, storeFrameByte b ((s.setAgenda rest).setAnswers evs) =
      { s with agenda := rest, rxAnswers := evs, scratch := cells, decPos := s.decPos + 1 } := ⟨_, rfl⟩

theorem byteAt_storeFrameByte_same (hfit : s.decPos.toNat < s.cfg.frameBufCap) :
    (storeFrameByte b s).byteAt .scratch s.decPos.toNat = b := by
  rw [byteAt_storeFrameByte hfit, if_pos rfl]

theorem byteAt_storeFrameByte_other {j : Nat} (hfit : s.decPos.toNat < s.cfg.frameBufCap) (hj : j ≠ s.decPos.toNat) :
    (storeFrameByte b s).byteAt .scratch j = s.byteAt .scratch j := by
  rw [byteAt_storeFrameByte hfit, if_neg hj]

/-! READ_HEADER (42_decoder.md R108-R112). -/

theorem header_byte_of_lt (h : s.decPos.toNat < 13) : header (.byte b) s = storeFrameByte b s := by
  refine if_neg ?_
  rw [storeFrameByte_decPos (by omega)]
  omega

theorem header_byte_last (h : s.decPos.toNat = 13) : header (.byte b) s = validateHeader (storeFrameByte b s) := by
  refine if_pos ?_
  rw [storeFrameByte_decPos (by omega), h]

/-- A Timeout or an IoFault in the header is a short read (42_decoder.md R109). -/
theorem header_short (h : ev = .timeout ∨ ev = .ioFault) : header ev s = s.finish .portReadFailed := by
  rcases h with rfl | rfl <;> rfl

/-- Settles O22: HEADER before the 13th byte. -/
theorem readHeaderStoresOrFailsShort : Obligations.ReadHeaderStoresOrFailsShort := by
  intro s ev evs rest h hp hlow hhigh
  have hcap := s.cfg.frameBufCap_ge
  have hfit : s.decPos.toNat < s.cfg.frameBufCap := by omega
  rw [step_receives_readHeader h hp]
  constructor
  · rintro b rfl hpos
    rw [header_byte_of_lt (s := (s.setAgenda rest).setAnswers evs) hpos]
    obtain ⟨cells, hshape⟩ := storeFrameByte_shape s b rest evs
    refine ⟨_, rfl, byteAt_storeFrameByte_same hfit, fun j hj => byteAt_storeFrameByte_other hfit hj, ?_⟩
    rw [hshape]
  · intro hev
    rw [header_short hev]
    rfl

/-- A valid header is latched, whether its body fits or not (42_decoder.md R111). -/
theorem acceptHeader_latchHeader_rx (hdr : List Byte) (s : State) :
    (acceptHeader (latchHeader hdr s)).rx =
      { s.rx with hdrFlags := byteOf hdr 0, src := le32 hdr 1, dest := le32 hdr 5, bodyLen := le16 hdr 9 } := by
  unfold acceptHeader
  split <;> rfl

/-- The latched length decides whether the body fits SCRATCH (42_decoder.md R112). -/
theorem acceptHeader_latchHeader_status (hdr : List Byte) (s : State) :
    (acceptHeader (latchHeader hdr s)).status =
      if 16 + (le16 hdr 9).toNat > s.cfg.frameBufCap then s.status.ended .bufferTooSmall
      else { s.status with phase := .readBody } := by
  have hlen : (latchHeader hdr s).rx.bodyLen = le16 hdr 9 := rfl
  have hcfg : (latchHeader hdr s).cfg = s.cfg := rfl
  unfold acceptHeader
  rw [hlen, hcfg]
  split <;> rfl

/-- Validating a header writes the RX_* registers and STATUS alone. -/
theorem validateHeader_shape (s : State) :
    ∃ r st, validateHeader s = { s with rx := r, status := st } := by
  unfold validateHeader acceptHeader
  split
  · split <;> exact ⟨_, _, rfl⟩
  · exact ⟨_, _, rfl⟩

/-- The 13th header byte completes the header's checksum; the rest of the header was there before it. -/
theorem validateHeader_storeFrameByte (h : s.decPos.toNat = 13) :
    validateHeader (storeFrameByte b s) =
      if checksum (s.memRead .scratch 1 11) = { a := s.byteAt .scratch 12, b := b } then
        acceptHeader (latchHeader (s.memRead .scratch 1 11) (storeFrameByte b s))
      else (storeFrameByte b s).finish .headerChecksumMismatch := by
  have hcap := s.cfg.frameBufCap_ge
  have hfit : s.decPos.toNat < s.cfg.frameBufCap := by omega
  have hlast : (storeFrameByte b s).byteAt .scratch 13 = b := h ▸ byteAt_storeFrameByte_same hfit
  rw [validateHeader, memRead_storeFrameByte (by omega) hfit, byteAt_storeFrameByte_other hfit (by omega), hlast]

theorem step_lastHeaderByte (h : s.receives (.byte b) evs rest) (hp : s.status.phase = .readHeader)
    (hpos : s.decPos.toNat = 13) :
    step s = .next (validateHeader (storeFrameByte b ((s.setAgenda rest).setAnswers evs))) := by
  rw [step_receives_readHeader h hp, header_byte_last (s := (s.setAgenda rest).setAnswers evs) hpos]

/-- What the 13th header byte's step validates: the coming actions and events do not count. -/
theorem validateHeader_storeFrameByte_received (hpos : s.decPos.toNat = 13) :
    validateHeader (storeFrameByte b ((s.setAgenda rest).setAnswers evs)) =
      if checksum (s.memRead .scratch 1 11) = { a := s.byteAt .scratch 12, b := b } then
        acceptHeader (latchHeader (s.memRead .scratch 1 11) (storeFrameByte b ((s.setAgenda rest).setAnswers evs)))
      else (storeFrameByte b ((s.setAgenda rest).setAnswers evs)).finish .headerChecksumMismatch := by
  rw [validateHeader_storeFrameByte (s := (s.setAgenda rest).setAnswers evs) hpos, State.memRead_setAnswers,
    State.memRead_setAgenda, State.byteAt_setAnswers, State.byteAt_setAgenda]

/-- Settles O23: the 13th header byte is stored, and its checksum decides whether the header is latched. -/
theorem lastHeaderByteValidatesTheHeader : Obligations.LastHeaderByteValidatesTheHeader := by
  intro s b evs rest h hp hpos
  have hcap := s.cfg.frameBufCap_ge
  have hfit : s.decPos.toNat < s.cfg.frameBufCap := by omega
  have hnext : s.decPos + 1 = 14 := congrArg (· + 1) (BitVec.eq_of_toNat_eq (y := 13) hpos)
  have hflags : byteOf (s.memRead .scratch 1 11) 0 = s.byteAt .scratch 1 := State.byteOf_memRead (by decide)
  refine ⟨_, step_lastHeaderByte h hp hpos, ?_, fun j hj => ?_, ?_, fun hne => ?_, fun heq => ?_⟩
  · rw [byteAt_validateHeader, ← hpos]
    exact byteAt_storeFrameByte_same hfit
  · rw [byteAt_validateHeader]
    exact byteAt_storeFrameByte_other hfit (hpos ▸ hj)
  · obtain ⟨cells, hstore⟩ := storeFrameByte_shape s b rest evs
    obtain ⟨r, st, hvalid⟩ := validateHeader_shape (storeFrameByte b ((s.setAgenda rest).setAnswers evs))
    rw [hvalid, hstore, hnext]
  · rw [validateHeader_storeFrameByte_received hpos, if_neg hne]
    exact ⟨rfl, rfl⟩
  · rw [validateHeader_storeFrameByte_received hpos, if_pos heq, acceptHeader_latchHeader_rx,
      acceptHeader_latchHeader_status, ← hflags]
    exact ⟨rfl, rfl⟩

/-! READ_BODY (42_decoder.md R113). -/

theorem body_byte_of_ne (hpos : s.decPos.toNat < 131071) (h : s.decPos.toNat + 1 ≠ 16 + s.rx.bodyLen.toNat) :
    body (.byte b) s = storeFrameByte b s := by
  refine if_neg ?_
  rw [storeFrameByte_decPos hpos]
  exact h

theorem body_byte_last (hpos : s.decPos.toNat < 131071) (h : s.decPos.toNat + 1 = 16 + s.rx.bodyLen.toNat) :
    body (.byte b) s = validateBody (storeFrameByte b s) := by
  refine if_pos ?_
  rw [storeFrameByte_decPos hpos]
  exact h

theorem body_short (h : ev = .timeout ∨ ev = .ioFault) : body ev s = s.finish .portReadFailed := by
  rcases h with rfl | rfl <;> rfl

/-- The last byte completes the body's checksum; the rest of the body was there before it. -/
theorem validateBody_storeFrameByte (h : s.decPos.toNat = 15 + s.rx.bodyLen.toNat)
    (hfit : 16 + s.rx.bodyLen.toNat ≤ s.cfg.frameBufCap) :
    validateBody (storeFrameByte b s) =
      if checksum s.receivedBody = { a := s.byteAt .scratch (14 + s.rx.bodyLen.toNat), b := b } then
        classify s.receivedBody (storeFrameByte b s)
      else (storeFrameByte b s).finish .bodyChecksumMismatch := by
  have hfit : s.decPos.toNat < s.cfg.frameBufCap := by omega
  have hrx : (storeFrameByte b s).rx = s.rx := rfl
  have hlast : (storeFrameByte b s).byteAt .scratch (15 + s.rx.bodyLen.toNat) = b :=
    h ▸ byteAt_storeFrameByte_same hfit
  rw [validateBody, hrx, memRead_storeFrameByte (by omega) hfit, byteAt_storeFrameByte_other hfit (by omega), hlast]
  rfl

/-- The body does not depend on the coming actions and events. -/
theorem receivedBody_setAgenda_setAnswers (s : State) (rest : List Action) (evs : List RxEvent) :
    ((s.setAgenda rest).setAnswers evs).receivedBody = s.receivedBody := by
  rw [State.receivedBody, State.memRead_setAnswers, State.memRead_setAgenda]
  rfl

/-- The step at the last byte of a frame. -/
theorem step_receivesLast (h : s.receivesLast b evs rest) :
    step s = .next
      (if checksum s.receivedBody = { a := s.byteAt .scratch (14 + s.rx.bodyLen.toNat), b := b } then
        classify s.receivedBody (storeFrameByte b ((s.setAgenda rest).setAnswers evs))
      else (storeFrameByte b ((s.setAgenda rest).setAnswers evs)).finish .bodyChecksumMismatch) := by
  obtain ⟨hev, hp, hpos, hfit⟩ := h
  have hcap := s.cfg.frameBufCap_le
  have hlt : s.decPos.toNat < 131071 := by omega
  have hlast : s.decPos.toNat + 1 = 16 + s.rx.bodyLen.toNat := by omega
  have hbody := body_byte_last (b := b) (s := (s.setAgenda rest).setAnswers evs) hlt hlast
  have hvalid := validateBody_storeFrameByte (b := b) (s := (s.setAgenda rest).setAnswers evs) hpos hfit
  rw [receivedBody_setAgenda_setAnswers, State.byteAt_setAnswers, State.byteAt_setAgenda] at hvalid
  rw [step_receives_readBody hev hp, hbody, hvalid]
  rfl

/-- Settles O24: BODY's arms, the last byte of the body apart. -/
theorem readBodyStoresAndValidates : Obligations.ReadBodyStoresAndValidates := by
  intro s ev evs rest h hp hlow hhigh hbody
  have hcap := s.cfg.frameBufCap_le
  have hfit : s.decPos.toNat < s.cfg.frameBufCap := by omega
  have hlt : s.decPos.toNat < 131071 := by omega
  constructor
  · intro hev
    rw [step_receives_readBody h hp, body_short hev]
    rfl
  · rintro b rfl
    refine ⟨storeFrameByte b ((s.setAgenda rest).setAnswers evs), byteAt_storeFrameByte_same hfit,
      fun j hj => byteAt_storeFrameByte_other hfit hj, rfl, fun hne => ?_,
      fun hlast => ⟨fun hne => ?_, fun heq => ?_⟩⟩
    · rw [step_receives_readBody h hp]
      exact congrArg _ (body_byte_of_ne (s := (s.setAgenda rest).setAnswers evs) hlt hne)
    · rw [step_receivesLast ⟨h, hp, by omega, hbody⟩, if_neg hne]
      rfl
    · rw [step_receivesLast ⟨h, hp, by omega, hbody⟩, if_pos heq]

end Sys2Proof.Machine
end

section
/-! PROOFS. A validated body: what CLASSIFY finishes with, and the delivery of a property response's value
(42_decoder.md R114-R118; O25, O26). -/

namespace Sys2Proof.Machine

open Sys2Proof

variable {s : State} {b : Byte} {evs : List RxEvent} {rest : List Action} {y : List Byte} {j : Nat}

@[simp] theorem receivedBody_length (s : State) : s.receivedBody.length = s.rx.bodyLen.toNat := State.memRead_length

/-- The last byte of a body whose checksum matches starts CLASSIFY (42_decoder.md R113). -/
theorem step_receivesLast_valid (h : s.receivesLast b evs rest)
    (hchk : checksum s.receivedBody = { a := s.byteAt .scratch (14 + s.rx.bodyLen.toNat), b := b }) :
    step s = .next (classify s.receivedBody (storeFrameByte b ((s.setAgenda rest).setAnswers evs))) := by
  rw [step_receivesLast h, if_pos hchk]

theorem State.receivesLast.decPos_lt (h : s.receivesLast b evs rest) : s.decPos.toNat < s.cfg.frameBufCap := by
  obtain ⟨-, -, hpos, hfit⟩ := h
  omega

/-! The outcomes of bodies that are no property response, in the order of CLASSIFY's checks (42_decoder.md R114-R117). -/

theorem classify_of_length_lt (h : y.length < 2) : classify y s = (latchBody y s).finish .invalidFrame := if_pos h

theorem classify_applicationError (hy : y.length = 4) (herr : (byteOf y 0).getLsbD 0 = true) :
    classify y s =
      ((latchBody y s).setRx { (latchBody y s).rx with errCode := le16 y 2 }).finish .applicationError := by
  rw [classify, classifyLatched, if_neg (by omega), isApplicationError, if_pos herr, if_pos (by omega)]

theorem classify_applicationError_length (hlen : 2 ≤ y.length) (hy : y.length ≠ 4)
    (herr : (byteOf y 0).getLsbD 0 = true) : classify y s = (latchBody y s).finish .invalidFrame := by
  rw [classify, classifyLatched, if_neg (by omega), isApplicationError, if_pos herr, if_neg (by omega)]

theorem classify_request (hlen : 2 ≤ y.length) (herr : (byteOf y 0).getLsbD 0 = false)
    (hresp : (byteOf y 0).getLsbD 1 = false) : classify y s = (latchBody y s).finish .foreignRequest := by
  rw [classify, classifyLatched, if_neg (by omega), isApplicationError, isResponse, herr, hresp]
  rfl

theorem isPropertyService_iff (service : Byte) :
    isPropertyService service = true ↔ service = 1#8 ∨ service = 2#8 := by
  simp only [isPropertyService, Bool.or_eq_true, decide_eq_true_eq]

/-- A response that is no property response has another service, or is too short for the object registers. -/
theorem classify_response_invalid (hlen : 2 ≤ y.length) (herr : (byteOf y 0).getLsbD 0 = false)
    (hresp : (byteOf y 0).getLsbD 1 = true) (hno : ¬ propertyResponse y) :
    classify y s = (latchBody y s).finish .invalidFrame := by
  rw [classify, classifyLatched, if_neg (by omega), isApplicationError, isResponse, herr, hresp]
  by_cases hservice : isPropertyService (byteOf y 1) = true
  · have hshort : y.length < 10 := by
      by_contra hge
      exact hno ⟨by omega, herr, hresp, (isPropertyService_iff _).1 hservice⟩
    rw [hservice, if_pos hshort]
    rfl
  · rw [Bool.not_eq_true] at hservice
    rw [hservice]
    rfl

/-- Short of a delivery, CLASSIFY writes the RX_* registers and STATUS alone. -/
theorem classify_shape (h : ¬ propertyResponse y) (s : State) :
    ∃ r st, classify y s = { s with rx := r, status := st } := by
  rcases classify_cases y s with ⟨-, r, c, hend, -⟩ | ⟨hyes, -⟩
  · exact ⟨r, _, hend⟩
  · exact absurd hyes h

/-- Settles O25: CLASSIFY's checks one by one, with the registers latched so far. -/
theorem classificationOfOtherBodies : Obligations.ClassificationOfOtherBodies := by
  intro s b evs rest h hchk hno
  have hfit := h.decPos_lt
  have hlatch : (latchBody s.receivedBody s).rx = { s.rx with
      bodyFlags := if 1 ≤ s.rx.bodyLen.toNat then byteOf s.receivedBody 0 else s.rx.bodyFlags
      service := if 2 ≤ s.rx.bodyLen.toNat then byteOf s.receivedBody 1 else s.rx.service } := by
    rw [latchBody, receivedBody_length, State.setRx_rx]
  refine ⟨_, step_receivesLast_valid h hchk, ?_, ?_, fun j hj => ?_, ?_, ?_, ?_, ?_, ?_⟩
  · obtain ⟨cells, hstore⟩ := storeFrameByte_shape s b rest evs
    obtain ⟨r, st, hclassify⟩ := classify_shape hno (storeFrameByte b ((s.setAgenda rest).setAnswers evs))
    rw [hclassify, hstore]
  · rw [byteAt_scratch_classify]
    exact byteAt_storeFrameByte_same hfit
  · rw [byteAt_scratch_classify]
    exact byteAt_storeFrameByte_other hfit hj
  all_goals
    rw [← hlatch, ← receivedBody_length]
  · intro hlen
    rw [classify_of_length_lt hlen]
    exact ⟨rfl, rfl⟩
  · intro _ herr hlen
    rw [classify_applicationError hlen herr]
    exact ⟨rfl, rfl⟩
  · intro hlen herr hne
    rw [classify_applicationError_length hlen hne herr]
    exact ⟨rfl, rfl⟩
  · intro hlen herr hresp
    rw [classify_request hlen herr hresp]
    exact ⟨rfl, rfl⟩
  · intro hlen herr hresp
    rw [classify_response_invalid hlen herr hresp hno]
    exact ⟨rfl, rfl⟩

/-! DELIVER (42_decoder.md R118). -/

/-- What DELIVER writes to RXVAL: the value, and a zero after it where there is spare capacity. -/
def deliveredBytes (y : List Byte) (s : State) : List Byte :=
  y.drop 10 ++ if y.length - 10 < s.decCap.toNat then [0x00] else []

theorem deliver_of_le (h : y.length - 10 ≤ s.decCap.toNat) :
    deliver y s = ((s.storeBytes .rxval 0 (deliveredBytes y s)).setRx
      { s.rx with valueLen := BitVec.ofNat 16 (y.length - 10) }).finish .ok := if_neg (Nat.not_lt.2 h)

/-- A value longer than the caller's buffer is not delivered. -/
theorem deliver_of_gt (h : y.length - 10 > s.decCap.toNat) : deliver y s = s.finish .bufferTooSmall := if_pos h

/-- DELIVER writes RXVAL, the RX_* registers and STATUS alone. -/
theorem deliver_shape (y : List Byte) (s : State) :
    ∃ cells r st, deliver y s = { s with rxval := cells, rx := r, status := st } := by
  unfold deliver
  split <;> exact ⟨_, _, _, rfl⟩

theorem byteAt_rxval_deliver (h : y.length - 10 ≤ s.decCap.toNat) :
    (deliver y s).byteAt .rxval j = (s.storeBytes .rxval 0 (deliveredBytes y s)).byteAt .rxval j := by
  rw [deliver_of_le h, State.byteAt_finish, State.byteAt_setRx]

/-- With spare capacity a zero follows the value. -/
theorem byteAt_rxval_deliver_terminator (h : y.length - 10 < s.decCap.toNat)
    (hcap : s.decCap.toNat ≤ s.cfg.rxvalBytes) : (deliver y s).byteAt .rxval (y.length - 10) = 0x00#8 := by
  have hsize : s.memSize .rxval = s.cfg.rxvalBytes := rfl
  have hbytes : deliveredBytes y s = y.drop 10 ++ [0x00] := by rw [deliveredBytes, if_pos h]
  have hlen : (y.drop 10).length = y.length - 10 := List.length_drop
  rw [byteAt_rxval_deliver (by omega), State.byteAt_storeBytes, hbytes, List.length_append, List.length_singleton,
    if_pos (by omega), List.getD_append_right _ _ _ _ (by omega), hlen, Nat.sub_zero, Nat.sub_self]
  rfl

/-- Past the value and its terminator RXVAL stays. -/
theorem byteAt_rxval_deliver_beyond (h : y.length - 10 ≤ s.decCap.toNat)
    (hj : y.length - 10 < j ∨ y.length - 10 = s.decCap.toNat ∧ y.length - 10 ≤ j) :
    (deliver y s).byteAt .rxval j = s.byteAt .rxval j := by
  rw [byteAt_rxval_deliver h]
  refine State.byteAt_storeBytes_outside (.inr ?_)
  rw [deliveredBytes, List.length_append, List.length_drop, Nat.zero_add]
  split
  · rw [List.length_singleton]
    omega
  · rw [List.length_nil]
    omega

/-- The registers latched of a property response (42_decoder.md R114). -/
def RxRegs.latchProperty (r : RxRegs) (y : List Byte) : RxRegs :=
  { r with bodyFlags := byteOf y 0, service := byteOf y 1, objType := le16 y 2, objId := le32 y 4, propId := le16 y 8 }

theorem latchObject_latchBody (h : 10 ≤ y.length) :
    latchObject y (latchBody y s) = s.setRx (s.rx.latchProperty y) := by
  have h1 : 1 ≤ y.length := by omega
  have h2 : 2 ≤ y.length := by omega
  simp only [latchObject, latchBody, State.setRx, RxRegs.latchProperty, if_pos h1, if_pos h2]

/-- A property response is latched and delivered (42_decoder.md R114, R117). -/
theorem classify_propertyResponse (h : propertyResponse y) (s : State) :
    classify y s = deliver y (s.setRx (s.rx.latchProperty y)) := by
  rcases classify_cases y s with ⟨hno, -⟩ | ⟨-, hdeliver⟩
  · exact absurd h hno
  · rw [hdeliver, latchObject_latchBody h.1]

/-- A delivery writes RXVAL, the RX_* registers and STATUS alone. -/
theorem classify_propertyResponse_shape (h : propertyResponse y) (s : State) :
    ∃ cells r st, classify y s = { s with rxval := cells, rx := r, status := st } := by
  obtain ⟨cells, r, st, hshape⟩ := deliver_shape y (s.setRx (s.rx.latchProperty y))
  rw [classify_propertyResponse h, hshape]
  exact ⟨cells, r, st, rfl⟩

/-- Settles O26: a property response comes to DELIVER, which refuses the value or writes it to RXVAL. -/
theorem deliveryOfAPropertyResponse : Obligations.DeliveryOfAPropertyResponse := by
  intro s b evs rest h hchk hprop hcap
  have hfit := h.decPos_lt
  obtain ⟨cells, hstore⟩ := storeFrameByte_shape s b rest evs
  refine ⟨_, step_receivesLast_valid h hchk, ?_, ?_, fun j hj => ?_, ?_⟩
  · obtain ⟨value, r, st, hdeliver⟩ := classify_propertyResponse_shape hprop
      (storeFrameByte b ((s.setAgenda rest).setAnswers evs))
    rw [hdeliver, hstore]
  · rw [byteAt_scratch_classify]
    exact byteAt_storeFrameByte_same hfit
  · rw [byteAt_scratch_classify]
    exact byteAt_storeFrameByte_other hfit hj
  · rw [classify_propertyResponse hprop, hstore, ← receivedBody_length]
    generalize hu : State.setRx _ _ = u
    have hdecCap : u.decCap = s.decCap := by rw [← hu]; rfl
    have hcfg : u.cfg = s.cfg := by rw [← hu]; rfl
    have hstatus : u.status = s.status := by rw [← hu]; rfl
    have hrx : u.rx = s.rx.latchProperty s.receivedBody := by rw [← hu]; rfl
    have hrxval (j : Nat) : u.byteAt .rxval j = s.byteAt .rxval j := by
      rw [← hu]
      exact State.byteAt_congr rfl rfl rfl
    rw [← hdecCap, ← hcfg] at hcap
    rw [← hdecCap, ← hstatus]
    refine ⟨fun hbig => ?_, fun hfits => ?_⟩
    · rw [deliver_of_gt hbig]
      exact ⟨rfl, hrx, fun j => (State.byteAt_finish _).trans (hrxval j)⟩
    · obtain ⟨hended, hlatched, hvalue⟩ := deliver_fits hfits hcap
      rw [hlatched, hrx]
      exact ⟨hended, rfl, hvalue, fun hroom => byteAt_rxval_deliver_terminator hroom hcap,
        fun j hj => (byteAt_rxval_deliver_beyond hfits hj).trans (hrxval j)⟩

end Sys2Proof.Machine
end

section
/-! PROOFS. Bytes before the start marker, and one corrupted byte in a span (42_decoder.md R119, R123; O27, O29). -/

namespace Sys2Proof.Machine

open Sys2Proof

variable {s : State} {b : Byte} {evs : List RxEvent}

/-- A byte of garbage takes one step, which only takes the event (42_decoder.md R107). -/
theorem step_garbage (ha : s.agenda = []) (hb : s.status.busy = true) (hp : s.status.phase = .seekStart)
    (hne : b ≠ startMarker) : step (s.setAnswers (.byte b :: evs)) = .next (s.setAnswers evs) := by
  rw [step_setAnswers_cons ha hb, receiveStep, State.setAnswers_status, hp]
  exact congrArg _ (seek_of_ne_startMarker hne)

/-- Settles O27, by induction on the garbage: each byte of it is one step that leaves the DECODE as it was. -/
theorem resynchronisationSkipsGarbage : Obligations.ResynchronisationSkipsGarbage := by
  intro s garbage stream n ha hb hp hmarker
  induction garbage with
  | nil => exact congrArg (Host.Core.run core · _) (Nat.zero_add n)
  | cons b garbage ih =>
    obtain ⟨hne, hmarker⟩ := List.ne_and_not_mem_of_not_mem_cons hmarker
    have hstep := step_garbage (evs := garbage.map .byte ++ stream) ha hb hp hne.symm
    rw [List.length_cons, Nat.add_right_comm]
    exact (run_succ_of_step hstep _).trans (ih hmarker)

/-- One changed byte changes the pair, through A (40_checksum.md R90). -/
theorem checksum_ne_of_ne {x y : Byte} (pre post : List Byte) (h : x ≠ y) :
    checksum (pre ++ y :: post) ≠ checksum (pre ++ x :: post) := fun heq =>
  h ((checksum_a_inj pre post y x).1 (congrArg Checksum.a heq)).symm

/-- Settles O29: the received span's checksum is not the received pair, so its validation fails. -/
theorem oneCorruptedByteIsDetected : Obligations.OneCorruptedByteIsDetected := by
  intro s b evs rest pre post x y hxy
  have hne := checksum_ne_of_ne pre post hxy
  refine ⟨fun h hp hpos hspan hpair => ⟨_, step_lastHeaderByte h hp hpos, ?_⟩,
    fun h hspan hpair => ⟨_, step_receivesLast h, ?_⟩⟩
  · rw [← hspan, hpair] at hne
    rw [validateHeader_storeFrameByte_received hpos, if_neg hne]
    rfl
  · rw [← hspan, hpair] at hne
    rw [if_neg hne]
    rfl

end Sys2Proof.Machine
end

section
/-! PROOFS. The property codec: the layout of a property body, and AS_INT and AS_FLOAT on the delivered value
(43_codec.md R126-R131; O32, O33, O35). -/

namespace Sys2Proof.Machine

open Sys2Proof

variable {s : State}

/-- Settles O35: the length and the fields of a property body, each read at the offset where the encoder puts it. -/
theorem propertyBodyRoundTrip : Obligations.PropertyBodyRoundTrip :=
  fun flags service objType objId propId value =>
    ⟨propertyBody_length flags service objType objId propId value,
      byteOf_propertyBody_flags .., byteOf_propertyBody_service .., le16_propertyBody_objType ..,
      le32_propertyBody_objId .., le16_propertyBody_propId .., drop_propertyBody ..⟩

/-! The integers at the start of the delivered value (43_codec.md R127, R128). -/

/-- A half widened is its two bytes side by side under zeros, the first in bits [7:0]. -/
theorem le16_zeroExtend_eq_append (bs : List Byte) (i : Nat) :
    (le16 bs i).zeroExtend 32 = 0#16 ++ byteOf bs (i + 1) ++ byteOf bs i := by
  refine BitVec.eq_of_getLsbD_eq fun j hj => ?_
  rw [le16, BitVec.getLsbD_append, BitVec.getLsbD_append]
  interval_cases j <;> simp

@[simp] theorem rxValue_length (s : State) : s.rxValue.length = s.rx.valueLen.toNat := State.memRead_length

/-- Byte `i` of the delivered value is RXVAL[i]. -/
theorem byteOf_rxValue {i : Nat} (h : i < s.rx.valueLen.toNat) : byteOf s.rxValue i = s.byteAt .rxval i := by
  rw [State.rxValue, State.byteOf_memRead h, Nat.zero_add]

theorem le32_rxValue (h : 4 ≤ s.rx.valueLen.toNat) :
    le32 s.rxValue 0 =
      s.byteAt .rxval 3 ++ s.byteAt .rxval 2 ++ s.byteAt .rxval 1 ++ s.byteAt .rxval 0 := by
  rw [le32_eq_append, byteOf_rxValue (by omega), byteOf_rxValue (by omega), byteOf_rxValue (by omega),
    byteOf_rxValue (by omega)]

theorem le16_rxValue_zeroExtend (h : 2 ≤ s.rx.valueLen.toNat) :
    (le16 s.rxValue 0).zeroExtend 32 = 0#16 ++ s.byteAt .rxval 1 ++ s.byteAt .rxval 0 := by
  rw [le16_zeroExtend_eq_append, byteOf_rxValue (by omega), byteOf_rxValue (by omega)]

/-- What AS_INT makes of the delivered value, by its length. -/
theorem asInteger_rxValue (s : State) :
    asInteger s.rxValue =
      if 4 ≤ s.rx.valueLen.toNat then
        s.byteAt .rxval 3 ++ s.byteAt .rxval 2 ++ s.byteAt .rxval 1 ++ s.byteAt .rxval 0
      else if 2 ≤ s.rx.valueLen.toNat then 0#16 ++ s.byteAt .rxval 1 ++ s.byteAt .rxval 0
      else 0#32 := by
  rw [asInteger, rxValue_length]
  exact if_ctx_congr Iff.rfl le32_rxValue fun _ => if_ctx_congr Iff.rfl le16_rxValue_zeroExtend fun _ => rfl

/-- What AS_FLOAT makes of the delivered value, by its length. -/
theorem asFloat_rxValue (s : State) :
    asFloat s.rxValue =
      if 4 ≤ s.rx.valueLen.toNat then
        s.byteAt .rxval 3 ++ s.byteAt .rxval 2 ++ s.byteAt .rxval 1 ++ s.byteAt .rxval 0
      else 0x00000000#32 := by
  rw [asFloat, rxValue_length]
  exact if_ctx_congr Iff.rfl le32_rxValue fun _ => rfl

/-- Settles O32: AS_INT idle is `convertInt`, which writes what `asInteger` makes of the delivered value. -/
theorem asIntConvertsTheDeliveredValue : Obligations.AsIntConvertsTheDeliveredValue := by
  refine ⟨decodeWord_encode .asInt, fun s hb => exec_busy hb, fun s hb => ?_⟩
  rw [exec_idle hb, ← asInteger_rxValue]
  rfl

/-- Settles O33: AS_FLOAT idle is `convertFloat`, which writes what `asFloat` makes of the delivered value. -/
theorem asFloatPassesTheDeliveredPattern : Obligations.AsFloatPassesTheDeliveredPattern := by
  refine ⟨decodeWord_encode .asFloat, fun s hb => exec_busy hb, fun s hb => ?_⟩
  rw [exec_idle hb, ← asFloat_rxValue]
  rfl

end Sys2Proof.Machine
end

section
/-! PROOFS. The busy fault, the illegal command and the receive transport's order: what a step from an idle block can be
(60_exceptions.md R135, R144, R146), and a DECODE's result (R137; O7, O8, O47, O54). -/

namespace Sys2Proof.Machine

open Sys2Proof

variable {s t : State} {w : Word} {i : Instr}

/-- Settles O7: the dispatch looks at BUSY first, and so does every command. -/
theorem cmdWriteWhileBusyOnlySetsFaultBusy : Obligations.CmdWriteWhileBusyOnlySetsFaultBusy := by
  refine ⟨fun s w rest hw hb => ?_, fun s i hb => exec_busy hb⟩
  rw [step_cmdWrite hw]
  exact commandWrite_busy (s := s.setAgenda rest) hb

/-- Settles O54: the three outcomes with a result of their own, and the rest. -/
theorem decodeResultFromTheRegisters : Obligations.DecodeResultFromTheRegisters := by
  intro s
  unfold State.decodeResult
  refine ⟨fun h => ?_, fun h => ?_, fun h => ?_, fun hok happ hforeign => ?_⟩
  · rw [h]
    rfl
  · rw [h]
  · rw [h]
  · split
    · exact absurd ‹_› hok
    · exact absurd ‹_› happ
    · exact absurd ‹_› hforeign
    · rfl

/-! What a step can be while no DECODE runs. -/

/-- Only an arrival, a reset and a CMD write touch STATUS or the receive transport. -/
theorem step_idle_cases (hb : s.status.busy = false) (h : step s = .next t) :
    (∃ e rest, s.agenda = .arrive e :: rest) ∧ t.status = s.status ∨
    (∃ rest, s.agenda = .reset :: rest ∧ t = (s.setAgenda rest).platformReset) ∨
    (∃ w rest, s.atCmdWrite w rest ∧ commandWrite w (s.setAgenda rest) = .next t) ∨
    t.status = s.status ∧ t.rxAnswers = s.rxAnswers := by
  rcases step_cases h with ⟨rest, _, ht⟩ | ⟨e, rest, ha, rfl⟩ | ⟨_, _, _, _, rfl⟩ | ⟨rest, ha, rfl⟩ |
    ⟨_, _, _, _, rfl⟩ | ⟨o, v, _, _, _, _, rfl⟩ | hcmd
  case inl =>
    rw [receiveTurn_idle (s := s.setAgenda rest) hb, Host.Outcome.next.injEq] at ht
    subst ht
    exact .inr (.inr (.inr ⟨rfl, rfl⟩))
  case inr.inl => exact .inl ⟨⟨e, rest, ha⟩, rfl⟩
  case inr.inr.inl | inr.inr.inr.inr.inl => exact .inr (.inr (.inr ⟨rfl, rfl⟩))
  case inr.inr.inr.inl => exact .inr (.inl ⟨rest, ha, rfl⟩)
  case inr.inr.inr.inr.inr.inl =>
    rw [State.busWrite_shape]
    exact .inr (.inr (.inr ⟨rfl, rfl⟩))
  case inr.inr.inr.inr.inr.inr => exact .inr (.inr (.inl hcmd))

/-! ILLEGAL_COMMAND (60_exceptions.md R135). -/

/-- From an idle block, where BUSY and PHASE are what `finish` writes, only OUTCOME changes. -/
theorem State.finish_idle (hb : s.status.busy = false) (hp : s.status.phase = .idle) (c : OutcomeCode) :
    s.finish c = { s with status := { s.status with outcome := c } } := by
  simp only [State.finish, hb, hp]

theorem not_legal_of_decodeWord (h : decodeWord w = none) : legal w = false := by
  refine Bool.eq_false_iff.2 fun hl => ?_
  obtain ⟨i, hi⟩ := exists_decodeWord_of_legal hl
  exact nomatch h.symm.trans hi

theorem encodeFrame_outcome (s : State) :
    (encodeFrame s).status.outcome = .bufferTooSmall ∨ (encodeFrame s).status.outcome = .ok := by
  unfold encodeFrame
  split
  · exact .inl rfl
  · exact .inr rfl

/-- The one command that ends with ILLEGAL_COMMAND is a DECODE refused at its start (42_decoder.md R105). -/
theorem exec_idle_illegalCommand (hb : s.status.busy = false) (h : exec i s = .next t)
    (ho : t.status.outcome = .illegalCommand) : i = .decode ∧ s.rxCap.toNat > s.cfg.rxvalBytes := by
  rw [exec_idle hb, Host.Outcome.next.injEq] at h
  subst h
  cases i with
  | encode => rcases encodeFrame_outcome s with he | he <;> exact nomatch he.symm.trans ho
  | decode =>
    refine ⟨rfl, Nat.lt_of_not_le fun hcap => ?_⟩
    rw [decodeStart_accepted hcap] at ho
    exact nomatch ho
  | chkInit | chkByte _ | asInt | asFloat => exact nomatch ho

/-- Settles O8: the two refusals are `finish` in an idle block; of the steps that touch STATUS only a CMD write can leave
ILLEGAL_COMMAND. -/
theorem illegalCommandRecordsOnlyTheOutcome : Obligations.IllegalCommandRecordsOnlyTheOutcome := by
  intro s hb hp
  refine ⟨fun w rest hw hl => ?_, fun hcap => ?_, fun t h ho hne => ?_⟩
  · rw [step_cmdWrite hw, commandWrite_of_not_legal (s := s.setAgenda rest) hb hl]
    exact congrArg _ (State.finish_idle (s := s.setAgenda rest) hb hp _)
  · rw [exec_idle hb, decodeStart_refused hcap, State.finish_idle hb hp]
  · rcases step_idle_cases hb h with ⟨-, hs⟩ | ⟨_, -, rfl⟩ | ⟨w, rest, hw, hc⟩ | ⟨hs, -⟩
    · exact absurd (hs ▸ ho) hne
    · exact nomatch ho
    · refine ⟨w, rest, hw, ?_⟩
      rcases commandWrite_cases hc with ⟨hbusy, -⟩ | ⟨-, hnone, -⟩ | ⟨i, -, hi, he⟩
      · exact nomatch hb.symm.trans hbusy
      · exact .inl (not_legal_of_decodeWord hnone)
      · obtain ⟨rfl, hcap⟩ := exec_idle_illegalCommand (s := s.setAgenda rest) hb he ho
        exact .inr ⟨hi, hcap⟩
    · exact absurd (hs ▸ ho) hne

/-! The receive transport (60_exceptions.md R144). -/

theorem encodeFrame_rxAnswers (s : State) : (encodeFrame s).rxAnswers = s.rxAnswers := by
  unfold encodeFrame
  split <;> rfl

/-- DECODE's start takes nothing and flushes nothing. -/
theorem decodeStart_rxAnswers (s : State) : (decodeStart s).rxAnswers = s.rxAnswers := by
  unfold decodeStart
  split <;> rfl

theorem exec_idle_rxAnswers (hb : s.status.busy = false) (h : exec i s = .next t) : t.rxAnswers = s.rxAnswers := by
  rw [exec_idle hb, Host.Outcome.next.injEq] at h
  subst h
  cases i with
  | encode => exact encodeFrame_rxAnswers s
  | decode => exact decodeStart_rxAnswers s
  | chkInit | chkByte _ | asInt | asFloat => rfl

/-- No CMD write touches the receive transport. -/
theorem commandWrite_rxAnswers (h : commandWrite w s = .next t) : t.rxAnswers = s.rxAnswers := by
  rcases commandWrite_cases h with ⟨-, rfl⟩ | ⟨-, -, rfl⟩ | ⟨i, hb, -, he⟩
  · rfl
  · rfl
  · exact exec_idle_rxAnswers hb he

/-- Settles O47: an arrival appends, an idle block's other steps keep what waits, and a running DECODE gets the first. -/
theorem arrivingBytesAreKeptInOrder : Obligations.ArrivingBytesAreKeptInOrder := by
  refine ⟨fun s e rest ha => step_of_agenda ha, fun s t h hb harrive => ?_, fun s ev evs rest => step_receives⟩
  rcases step_idle_cases hb h with ⟨⟨e, rest, ha⟩, -⟩ | ⟨_, -, rfl⟩ | ⟨w, rest, -, hc⟩ | ⟨-, hkept⟩
  · exact absurd ha (harrive e rest)
  · rfl
  · exact commandWrite_rxAnswers (s := s.setAgenda rest) hc
  · exact hkept

end Sys2Proof.Machine
end

section
/-! PROOFS. A host write commutes with the block's turn, and RX_CAP is latched at DECODE's start
(70_reset_and_hazards.md R167, 60_exceptions.md R147; O31); what the registers read after reset
(70_reset_and_hazards.md R159; O49). -/

namespace Sys2Proof.Machine

open Sys2Proof

variable {s t : State} {r : Reg}

/-! A host write beside the block's turn. -/

/-- The registers and the TXVAL a host write leaves are the same in two states that agree on CHK, the TX_* registers,
RX_CAP, TXVAL, the configuration and the draw. -/
theorem busWrite_eq_withHostSide (hchk : t.chk = s.chk) (htx : t.tx = s.tx) (hcap : t.rxCap = s.rxCap)
    (hval : t.txval = s.txval) (hcfg : t.cfg = s.cfg) (hdraw : t.draw = s.draw) (offset : Nat) (v : Word) :
    t.busWrite offset v =
      t.withHostSide s.chk (s.busWrite offset v).tx (s.busWrite offset v).rxCap (s.busWrite offset v).txval := by
  cases s
  cases t
  dsimp only at hchk htx hcap hval hcfg hdraw
  subst hchk htx hcap hval hcfg hdraw
  unfold State.busWrite
  split
  next r _ => cases r <;> rfl
  next => split <;> rfl

/-- The block's turn commutes with a host write: it neither reads nor writes what the write changes, so the write comes
to the same before and after it. -/
theorem receiveTurn_busWrite (h : receiveTurn s = .next t) (offset : Nat) (v : Word) :
    receiveTurn (s.busWrite offset v) = .next (t.busWrite offset v) := by
  have hf := receiveTurn_frame h
  have hs := busWrite_eq_withHostSide (s := s) rfl rfl rfl rfl rfl rfl offset v
  have ht := busWrite_eq_withHostSide (s := s) hf.chk hf.tx hf.rxCap hf.txval hf.cfg hf.draw offset v
  have hturn := receiveTurn_withHostSide h s.chk (s.busWrite offset v).tx (s.busWrite offset v).rxCap
    (s.busWrite offset v).txval
  rwa [← hs, ← ht] at hturn

/-- A start that leaves the block busy was not refused, and it latched RX_CAP. -/
theorem decodeStart_decCap (hbusy : (decodeStart s).status.busy = true) : (decodeStart s).decCap = s.rxCap := by
  rcases Nat.lt_or_ge s.cfg.rxvalBytes s.rxCap.toNat with hcap | hcap
  · rw [decodeStart_refused hcap, State.finish_busy] at hbusy
    exact nomatch hbusy
  · rw [decodeStart_accepted hcap]

/-- Settles O31: the start step latches RX_CAP, and a host write, which leaves dec_cap alone, commutes with the turn. -/
theorem hostWritesDoNotAffectARunningDecode : Obligations.HostWritesDoNotAffectARunningDecode := by
  refine ⟨fun s t hidle h hbusy => ?_, fun s t offset v h => receiveTurn_busWrite h offset v, fun s offset v => ?_⟩
  · rw [exec_idle hidle, Host.Outcome.next.injEq] at h
    subst h
    exact decodeStart_decCap hbusy
  · rw [State.busWrite_shape]

/-! The registers after reset. -/

/-- The register map finds every register at its offset. -/
theorem busRead_offset (s : State) (r : Reg) : s.busRead r.offset = s.readReg r := by cases r <;> rfl

/-- Every register but CHK is 0 after reset, whatever the configuration and the draw. -/
theorem readReg_resetWith (h : r ≠ .chk) (c : Config) (d : Draw) : (State.resetWith c d).readReg r = 0#32 := by
  cases r with
  | chk => exact absurd rfl h
  | status =>
    have hword : ({ busy := false, phase := .idle, outcome := .none, faultBusy := false } : Status).word = 0#32 := by
      decide
    exact hword
  | _ => rfl

/-- The same on the bus, by the register found at the offset. -/
theorem busRead_resetWith {offset : Nat} (h : ∃ r ∈ allRegs, r ≠ .chk ∧ r.offset = offset) (c : Config) (d : Draw) :
    (State.resetWith c d).busRead offset = 0#32 := by
  obtain ⟨r, -, hr, rfl⟩ := h
  rw [busRead_offset, readReg_resetWith hr]

/-- Settles O49: each offset listed is that of a register other than CHK, and the rest is the reset state as written. -/
theorem resetRegisterValues : Obligations.ResetRegisterValues := by
  refine ⟨rfl, fun offset ho => busRead_resetWith ?_ _ _, rfl, rfl, rfl, rfl⟩
  revert offset
  decide

end Sys2Proof.Machine
end

section
/-! PROOFS. Command words both ways, and the twelve words of the tables (30_encoding.md R66, R69; O1, O3). -/

namespace Sys2Proof

/-- Settles O3: a word decodes to a command exactly if it is the command's encoding. -/
theorem decodeAndEncodeAreInverse : Obligations.DecodeAndEncodeAreInverse :=
  fun _ _ _ => decodeWord_eq_some_iff_eq_encode

/-- A number of 32 bits is read from the table as the word it is (30_encoding.md R68). -/
theorem decodeTableWord_of_lt {n : Nat} (h : n < 2 ^ 32) : decodeTableWord 32 n = decodeWord (BitVec.ofNat 32 n) :=
  if_pos ⟨rfl, h⟩

/-- Settles O1: the rows' words are the encodings of their commands, and each illegal word fails a condition of R66. -/
theorem tableWordsDecodeAsWritten : Obligations.TableWordsDecodeAsWritten := by
  unfold Obligations.TableWordsDecodeAsWritten
  iterate 12 rw [decodeTableWord_of_lt (by decide)]
  exact ⟨Machine.decodeWord_encode .chkInit, Machine.decodeWord_encode (.chkByte 0x5A), Machine.decodeWord_encode .encode,
    Machine.decodeWord_encode .decode, Machine.decodeWord_encode .asInt, Machine.decodeWord_encode .asFloat,
    Machine.decodeWord_of_not_legal (by decide), Machine.decodeWord_of_not_legal (by decide),
    Machine.decodeWord_of_not_legal (by decide), Machine.decodeWord_of_not_legal (by decide),
    Machine.decodeWord_of_not_legal (by decide), Machine.decodeWord_of_not_legal (by decide)⟩

end Sys2Proof
end

section
/-! PROOFS. The invariant: what each phase adds to it, what the shared operations keep of it, and that reset and every
step keep it (10_state.md R25, R26, R38; 42_decoder.md R104-R118; O51, O52). -/

namespace Sys2Proof.Machine

open Sys2Proof

variable {s t : State} {b : Byte} {ev : RxEvent} {y : List Byte} {c : OutcomeCode} {i : Instr} {w : Word}

/-- The clauses of the invariant that speak of no phase. -/
structure State.ContentsOk (s : State) : Prop where
  memories   : s.memoriesWf
  valueLen   : s.rx.valueLen.toNat ≤ s.cfg.rxvalBytes
  txFrameLen : s.txFrameLen.toNat = 0 ∨ 26 ≤ s.txFrameLen.toNat ∧ s.txFrameLen.toNat ≤ s.cfg.frameBufCap

/-- The clauses that hold in every phase of a running DECODE. -/
structure State.RunningOk (s : State) : Prop extends s.ContentsOk where
  busy    : s.status.busy = true
  outcome : s.status.outcome = .none
  decCap  : s.decCap.toNat ≤ s.cfg.rxvalBytes

/-! The invariant, phase by phase. -/

theorem State.Inv.contents (h : s.Inv) : s.ContentsOk :=
  have ⟨_, hval, htx⟩ := h.lengths
  ⟨h.memories, hval, htx⟩

theorem State.Inv.running (h : s.Inv) (hb : s.status.busy = true) : s.RunningOk :=
  ⟨h.contents, hb, h.outcome.1 hb, h.lengths.1 hb⟩

theorem State.ContentsOk.inv_of_idle (h : s.ContentsOk) (hb : s.status.busy = false) (hp : s.status.phase = .idle)
    (ho : s.status.outcome ≠ .portWriteFailed) : s.Inv where
  memories := h.memories
  phase    := by simp only [State.phaseOk, hp, hb]
  position := by simp only [State.positionOk, hp]
  header   := by simp only [State.headerOk, hp]
  outcome  := ⟨fun hb' => absurd (hb.symm.trans hb') nofun, ho⟩
  lengths  := ⟨fun hb' => absurd (hb.symm.trans hb') nofun, h.valueLen, h.txFrameLen⟩

theorem State.RunningOk.outcomeOk (h : s.RunningOk) : s.outcomeOk := ⟨fun _ => h.outcome, by rw [h.outcome]; nofun⟩

theorem State.RunningOk.lengthsOk (h : s.RunningOk) : s.lengthsOk := ⟨fun _ => h.decCap, h.valueLen, h.txFrameLen⟩

theorem State.RunningOk.inv_of_seekStart (h : s.RunningOk) (hp : s.status.phase = .seekStart)
    (hpos : s.decPos.toNat = 0) : s.Inv where
  memories := h.memories
  phase    := by simp only [State.phaseOk, hp, h.busy]
  position := by simp only [State.positionOk, hp, hpos]
  header   := by simp only [State.headerOk, hp]
  outcome  := h.outcomeOk
  lengths  := h.lengthsOk

theorem State.RunningOk.inv_of_readHeader (h : s.RunningOk) (hp : s.status.phase = .readHeader)
    (hpos : 1 ≤ s.decPos.toNat ∧ s.decPos.toNat < 14) (hmark : s.byteAt .scratch 0 = startMarker) : s.Inv where
  memories := h.memories
  phase    := by simp only [State.phaseOk, hp, h.busy]
  position := by simp only [State.positionOk, hp]; exact hpos
  header   := by simp only [State.headerOk, hp]; exact hmark
  outcome  := h.outcomeOk
  lengths  := h.lengthsOk

/-- What the invariant says of READ_BODY alone: where the next byte goes, and the header that was latched. -/
structure State.ReadBodyOk (s : State) : Prop where
  low      : 14 ≤ s.decPos.toNat
  high     : s.decPos.toNat < 16 + s.rx.bodyLen.toNat
  fits     : 16 + s.rx.bodyLen.toNat ≤ s.cfg.frameBufCap
  marker   : s.byteAt .scratch 0 = startMarker
  checksum : checksum (s.memRead .scratch 1 11) = { a := s.byteAt .scratch 12, b := s.byteAt .scratch 13 }
  bodyLen  : s.rx.bodyLen = le16 (s.memRead .scratch 1 11) 9
  src      : s.rx.src = le32 (s.memRead .scratch 1 11) 1

theorem State.RunningOk.inv_of_readBody (h : s.RunningOk) (hp : s.status.phase = .readBody) (hr : s.ReadBodyOk) :
    s.Inv where
  memories := h.memories
  phase    := by simp only [State.phaseOk, hp, h.busy]
  position := by simp only [State.positionOk, hp]; exact ⟨hr.low, hr.high, hr.fits⟩
  header   := by simp only [State.headerOk, hp]; exact ⟨hr.marker, hr.checksum, hr.bodyLen, hr.src⟩
  outcome  := h.outcomeOk
  lengths  := h.lengthsOk

theorem State.Inv.of_readHeader (h : s.Inv) (hp : s.status.phase = .readHeader) :
    (1 ≤ s.decPos.toNat ∧ s.decPos.toNat < 14) ∧ s.byteAt .scratch 0 = startMarker := by
  have hpos := h.position
  have hhdr := h.header
  simp only [State.positionOk, State.headerOk, hp] at hpos hhdr
  exact ⟨hpos, hhdr⟩

theorem State.Inv.readBodyOk (h : s.Inv) (hp : s.status.phase = .readBody) : s.ReadBodyOk := by
  have hpos := h.position
  have hhdr := h.header
  simp only [State.positionOk, State.headerOk, hp] at hpos hhdr
  obtain ⟨hlow, hhigh, hfits⟩ := hpos
  obtain ⟨hmark, hchk, hlen, hsrc⟩ := hhdr
  exact ⟨hlow, hhigh, hfits, hmark, hchk, hlen, hsrc⟩

/-! What leaves the block's own state alone keeps the invariant. -/

theorem State.Inv.withOthers (h : s.Inv) (agenda : List Action) (answers : List RxEvent) (sent : List Byte)
    (accepted : Nat) (v : Word) :
    State.Inv { s with agenda := agenda, rxAnswers := answers, sent := sent, accepted := accepted, busData := v } :=
  ⟨h.memories, h.phase, h.position, h.header, h.outcome, h.lengths⟩

theorem State.Inv.setAgenda (h : s.Inv) (rest : List Action) : (s.setAgenda rest).Inv :=
  h.withOthers rest s.rxAnswers s.sent s.accepted s.busData

theorem State.Inv.setAnswers (h : s.Inv) (evs : List RxEvent) : (s.setAnswers evs).Inv :=
  h.withOthers s.agenda evs s.sent s.accepted s.busData

theorem State.Inv.busyFault (h : s.Inv) : s.busyFault.Inv :=
  ⟨h.memories, h.phase, h.position, h.header, h.outcome, h.lengths⟩

/-- A host write changes TX_*, RX_CAP and TXVAL, of which only TXVAL's form is in the invariant. -/
theorem State.Inv.busWrite (h : s.Inv) (offset : Nat) (v : Word) : (s.busWrite offset v).Inv := by
  have hmem := State.busWrite_memoriesWf h.memories offset v
  rw [State.busWrite_shape] at hmem ⊢
  exact ⟨hmem, h.phase, h.position, h.header, h.outcome, h.lengths⟩

/-! The shared operations. -/

theorem State.ContentsOk.storeBytes (h : s.ContentsOk) (m : MemId) (k : Nat) (bs : List Byte) :
    (s.storeBytes m k bs).ContentsOk where
  memories   := State.storeBytes_memoriesWf h.memories
  valueLen   := by rw [State.storeBytes_rx, State.storeBytes_cfg]; exact h.valueLen
  txFrameLen := by rw [State.storeBytes_txFrameLen, State.storeBytes_cfg]; exact h.txFrameLen

theorem State.ContentsOk.setRx (h : s.ContentsOk) {r : RxRegs} (hr : r.valueLen.toNat ≤ s.cfg.rxvalBytes) :
    (s.setRx r).ContentsOk := ⟨h.memories, hr, h.txFrameLen⟩

/-- Every end but the host procedure's own outcome leaves an idle state of the invariant. -/
theorem State.ContentsOk.finish_inv (h : s.ContentsOk) (hc : c ≠ .portWriteFailed) : (s.finish c).Inv :=
  State.ContentsOk.inv_of_idle ⟨h.memories, h.valueLen, h.txFrameLen⟩ rfl rfl hc

theorem State.RunningOk.setRx (h : s.RunningOk) (r : RxRegs) (hr : r.valueLen = s.rx.valueLen) :
    (s.setRx r).RunningOk :=
  ⟨h.toContentsOk.setRx (hr ▸ h.valueLen), h.busy, h.outcome, h.decCap⟩

theorem State.RunningOk.setPhase (h : s.RunningOk) (p : Phase) : (s.setPhase p).RunningOk :=
  ⟨⟨h.memories, h.valueLen, h.txFrameLen⟩, h.busy, h.outcome, h.decCap⟩

theorem State.RunningOk.setDecPos (h : s.RunningOk) (p : BitVec 17) : (s.setDecPos p).RunningOk :=
  ⟨⟨h.memories, h.valueLen, h.txFrameLen⟩, h.busy, h.outcome, h.decCap⟩

theorem State.RunningOk.storeScratch (h : s.RunningOk) (k : Nat) (bs : List Byte) :
    (s.storeBytes .scratch k bs).RunningOk :=
  ⟨h.toContentsOk.storeBytes .scratch k bs, h.busy, h.outcome, h.decCap⟩

theorem State.RunningOk.storeFrameByte (h : s.RunningOk) (b : Byte) : (storeFrameByte b s).RunningOk :=
  (h.storeScratch ..).setDecPos _

/-! Reset. -/

theorem Memory.wf_nil (dflt : Nat → Byte) : Memory.wf dflt [] := ⟨.nil, nofun⟩

/-- Empty memories, zero registers and an idle decoder. -/
theorem resetWith_inv (c : Config) (d : Draw) : (State.resetWith c d).Inv := by
  have hempty (m : MemId) : (State.resetWith c d).memWf m := by
    cases m <;> exact ⟨Memory.wf_nil _, nofun⟩
  exact State.ContentsOk.inv_of_idle ⟨⟨hempty _, hempty _, hempty _⟩, Nat.zero_le _, .inl rfl⟩ rfl rfl nofun

theorem platformReset_inv (s : State) : s.platformReset.Inv :=
  (resetWith_inv s.cfg (Draw.fresh s.draw)).withOthers s.agenda s.rxAnswers s.sent s.accepted s.busData

/-- Settles O51: the invariant holds after reset with any configuration, so with the one that was built. -/
theorem resetMeetsTheInvariant : Obligations.ResetMeetsTheInvariant := resetWith_inv _ _

/-! The commands. -/

theorem encodeFrame_inv (h : s.ContentsOk) : (encodeFrame s).Inv := by
  rcases Nat.lt_or_ge s.cfg.frameBufCap (26 + s.txLen) with hbig | hfit
  · rw [encodeFrame_refused hbig]
    exact State.ContentsOk.inv_of_idle ⟨h.memories, h.valueLen, .inl rfl⟩ rfl rfl nofun
  · have hlen := encodeFrame_txFrameLen hfit
    have hstore := h.storeBytes .scratch 0 s.requestFrame
    rw [encodeFrame_accepted hfit] at hlen ⊢
    refine State.ContentsOk.inv_of_idle ⟨hstore.memories, h.valueLen, .inr ?_⟩ rfl rfl nofun
    rw [hlen]
    exact ⟨Nat.le_add_right .., hfit⟩

theorem decodeStart_inv (h : s.ContentsOk) : (decodeStart s).Inv := by
  rcases Nat.lt_or_ge s.cfg.rxvalBytes s.rxCap.toNat with hbig | hcap
  · rw [decodeStart_refused hbig]
    exact h.finish_inv nofun
  · rw [decodeStart_accepted hcap]
    exact State.RunningOk.inv_of_seekStart ⟨⟨h.memories, Nat.zero_le _, h.txFrameLen⟩, rfl, rfl, hcap⟩ rfl rfl

theorem exec_inv (h : s.Inv) (he : exec i s = .next t) : t.Inv := by
  have hs := h.contents
  cases hb : s.status.busy with
  | true =>
    rw [exec_busy hb, Host.Outcome.next.injEq] at he
    exact he ▸ h.busyFault
  | false =>
    rw [exec_idle hb, Host.Outcome.next.injEq] at he
    subst he
    cases i with
    | encode => exact encodeFrame_inv hs
    | decode => exact decodeStart_inv hs
    | chkInit | chkByte _ | asInt | asFloat =>
      exact State.ContentsOk.finish_inv ⟨hs.memories, hs.valueLen, hs.txFrameLen⟩ nofun

theorem commandWrite_inv (h : s.Inv) (hc : commandWrite w s = .next t) : t.Inv := by
  rcases commandWrite_cases hc with ⟨-, rfl⟩ | ⟨-, -, rfl⟩ | ⟨i, -, -, he⟩
  · exact h.busyFault
  · exact h.contents.finish_inv nofun
  · exact exec_inv h he

/-! The receive steps. -/

theorem seek_inv (h : s.Inv) (hb : s.status.busy = true) : (seek ev s).Inv := by
  have hs := h.running hb
  cases ev with
  | timeout | ioFault => exact hs.toContentsOk.finish_inv nofun
  | byte b =>
    by_cases hmark : b = startMarker
    · subst hmark
      have hbyte := (byteAt_seek_startMarker (s := s) 0).trans (if_pos rfl)
      rw [seek_startMarker] at hbyte ⊢
      have hpos : (1 : BitVec 17).toNat < 14 := by decide
      exact (((hs.storeScratch 0 _).setDecPos 1).setPhase .readHeader).inv_of_readHeader rfl ⟨le_refl 1, hpos⟩ hbyte
    · rwa [seek_of_ne_startMarker hmark]

/-- A valid header whose body fits starts READ_BODY, with the header in SCRATCH the one latched. -/
theorem validateHeader_inv (h : s.RunningOk) (hpos : s.decPos.toNat = 14)
    (hmark : s.byteAt .scratch 0 = startMarker) : (validateHeader s).Inv := by
  have hlatch : (latchHeader (s.memRead .scratch 1 11) s).RunningOk := h.setRx _ rfl
  unfold validateHeader acceptHeader
  split
  case isFalse => exact h.toContentsOk.finish_inv nofun
  case isTrue hchk =>
    split
    case isTrue => exact hlatch.toContentsOk.finish_inv nofun
    case isFalse hfits =>
      refine (hlatch.setPhase .readBody).inv_of_readBody rfl
        ⟨hpos.ge, ?_, Nat.le_of_not_gt hfits, hmark, hchk, rfl, rfl⟩
      exact hpos.trans_lt (Nat.lt_add_right _ (by decide))

theorem header_inv (h : s.Inv) (hb : s.status.busy = true) (hp : s.status.phase = .readHeader) :
    (header ev s).Inv := by
  have hs := h.running hb
  obtain ⟨⟨hlow, hhigh⟩, hmark⟩ := h.of_readHeader hp
  have hcap := s.cfg.frameBufCap_ge
  cases ev with
  | timeout | ioFault => exact hs.toContentsOk.finish_inv nofun
  | byte b =>
    have hpos := storeFrameByte_decPos (s := s) (b := b) (by omega)
    have hmark : (storeFrameByte b s).byteAt .scratch 0 = startMarker :=
      (byteAt_storeFrameByte_other (by omega) (by omega)).trans hmark
    by_cases hlast : s.decPos.toNat = 13
    · rw [header_byte_last hlast]
      exact validateHeader_inv (hs.storeFrameByte b) (by omega) hmark
    · rw [header_byte_of_lt (by omega)]
      exact (hs.storeFrameByte b).inv_of_readHeader hp (by omega) hmark

theorem deliver_inv (h : s.RunningOk) : (deliver y s).Inv := by
  rcases Nat.lt_or_ge s.decCap.toNat (y.length - 10) with hbig | hfits
  · rw [deliver_of_gt hbig]
    exact h.toContentsOk.finish_inv nofun
  · rw [deliver_of_le hfits]
    refine State.ContentsOk.finish_inv (State.ContentsOk.setRx (h.toContentsOk.storeBytes ..) ?_) nofun
    rw [State.storeBytes_cfg, BitVec.toNat_ofNat]
    exact (Nat.mod_le ..).trans (hfits.trans h.decCap)

theorem classify_inv (h : s.RunningOk) : (classify y s).Inv := by
  rcases classify_cases y s with ⟨-, r, c, hend, -, -, hc, hlen⟩ | ⟨hprop, -⟩
  · rw [hend]
    exact (h.setRx r hlen).toContentsOk.finish_inv hc
  · rw [classify_propertyResponse hprop]
    exact deliver_inv (h.setRx _ rfl)

theorem validateBody_inv (h : s.RunningOk) : (validateBody s).Inv := by
  unfold validateBody
  split
  · exact classify_inv h
  · exact h.toContentsOk.finish_inv nofun

/-- A byte of the body leaves the header in SCRATCH as it is. -/
theorem storeFrameByte_readBodyOk (h : s.ReadBodyOk) (hne : s.decPos.toNat + 1 ≠ 16 + s.rx.bodyLen.toNat) :
    (storeFrameByte b s).ReadBodyOk := by
  obtain ⟨hlow, hhigh, hfits, hmark, hchk, hlen, hsrc⟩ := h
  have hcap := s.cfg.frameBufCap_le
  have hpos := storeFrameByte_decPos (s := s) (b := b) (by omega)
  have hkeep (j : Nat) (hj : j < 14) : (storeFrameByte b s).byteAt .scratch j = s.byteAt .scratch j :=
    byteAt_storeFrameByte_other (by omega) (by omega)
  have hhdr : (storeFrameByte b s).memRead .scratch 1 11 = s.memRead .scratch 1 11 :=
    memRead_storeFrameByte (by omega) (by omega)
  have hhigh : s.decPos.toNat + 1 < 16 + s.rx.bodyLen.toNat := by omega
  refine ⟨by omega, hpos.trans_lt hhigh, hfits, ?_, ?_, ?_, ?_⟩
  · rw [hkeep 0 (by decide), hmark]
  · rw [hhdr, hchk, hkeep 12 (by decide), hkeep 13 (by decide)]
  · rw [hhdr, ← hlen]
    rfl
  · rw [hhdr, ← hsrc]
    rfl

theorem body_inv (h : s.Inv) (hb : s.status.busy = true) (hp : s.status.phase = .readBody) : (body ev s).Inv := by
  have hs := h.running hb
  have hbody := h.readBodyOk hp
  have hcap := s.cfg.frameBufCap_le
  have hhigh := hbody.high
  have hfits := hbody.fits
  cases ev with
  | timeout | ioFault => exact hs.toContentsOk.finish_inv nofun
  | byte b =>
    by_cases hlast : s.decPos.toNat + 1 = 16 + s.rx.bodyLen.toNat
    · rw [body_byte_last (by omega) hlast]
      exact validateBody_inv (hs.storeFrameByte b)
    · rw [body_byte_of_ne (by omega) hlast]
      exact (hs.storeFrameByte b).inv_of_readBody hp (storeFrameByte_readBodyOk hbody hlast)

theorem receiveTurn_inv (h : s.Inv) (ht : receiveTurn s = .next t) : t.Inv := by
  rcases receiveTurn_cases ht with ⟨rfl, -⟩ | ⟨ev, evs, hb, -, hstep⟩
  · exact h
  · have h := h.setAnswers evs
    rcases receiveStep_cases hstep with ⟨-, rfl⟩ | ⟨hp, rfl⟩ | ⟨hp, rfl⟩
    · exact seek_inv h hb
    · exact header_inv h hb hp
    · exact body_inv h hb hp

/-- Settles O52: of the agents' actions only a reset, a CMD write and the block's turn touch what the invariant is about,
but for TXVAL's cells. -/
theorem everyStepKeepsTheInvariant : Obligations.EveryStepKeepsTheInvariant := by
  intro s t h hstep
  rcases step_cases hstep with ⟨rest, -, ht⟩ | ⟨e, rest, -, rfl⟩ | ⟨bs, k, rest, -, rfl⟩ | ⟨rest, -, rfl⟩ |
    ⟨o, rest, -, -, rfl⟩ | ⟨o, v, rest, -, -, -, rfl⟩ | ⟨w, rest, -, hc⟩
  · exact receiveTurn_inv (h.setAgenda rest) ht
  · exact (h.setAgenda rest).setAnswers _
  · exact h.withOthers rest s.rxAnswers _ _ s.busData
  · exact platformReset_inv _
  · exact h.withOthers rest s.rxAnswers s.sent s.accepted _
  · exact (h.setAgenda rest).busWrite ..
  · exact commandWrite_inv (h.setAgenda rest) hc

end Sys2Proof.Machine
end

section
/-! PROOFS. The register map: what each register reads as a number, STATUS's layout, and what a host write does to the
register or the TXVAL bytes at its offset (10_state.md R22-R25, R31, R33; 20_memory.md R53-R56, R60; O36, O37, O38, O40,
O41, O42). -/

namespace Sys2Proof.Machine

open Sys2Proof

variable {s : State} {n : Nat} {r : Reg}

/-! The registers read as numbers (10_state.md R22, R24). -/

/-- A register no wider than a word reads as its number, with zeros above. -/
theorem toNat_zeroExtend_word {k : Nat} (hk : k ≤ 32) (v : BitVec k) : (v.zeroExtend 32).toNat = v.toNat := by
  rw [BitVec.toNat_setWidth, Nat.mod_eq_of_lt (v.isLt.trans_le (Nat.pow_le_pow_right (by decide) hk))]

/-- Settles O36: the register map gives each register at its offset, extended to a word. -/
theorem registersReadAtTheirOffsets : Obligations.RegistersReadAtTheirOffsets := by
  intro s
  refine ⟨rfl, ?_, rfl, ?_, ?_, rfl, ?_, ?_, ?_, ?_, ?_, rfl, rfl, ?_, ?_, ?_, ?_, rfl, ?_, ?_, ?_, rfl, rfl⟩
  · rw [busRead_chk, checksumWord_toNat]
  all_goals exact toNat_zeroExtend_word (by decide) _

/-- Two fields side by side as a number. -/
theorem toNat_append_add {k l : Nat} (x : BitVec k) (y : BitVec l) : (x ++ y).toNat = 2 ^ l * x.toNat + y.toNat := by
  rw [BitVec.toNat_append, ← Nat.shiftLeft_add_eq_or_of_lt y.isLt, Nat.shiftLeft_eq, Nat.mul_comm]

/-- STATUS as a number: BUSY, PHASE, OUTCOME and FAULT_BUSY side by side (10_state.md R25). -/
theorem statusWord_toNat (st : Status) :
    st.word.toNat = (if st.busy then 1 else 0) + 2 ^ 4 * st.phase.code.toNat + 2 ^ 8 * st.outcome.code.toNat +
      (if st.faultBusy then 2 ^ 16 else 0) := by
  have bit (b : Bool) : (BitVec.ofBool b).toNat = if b then 1 else 0 := by cases b <;> rfl
  unfold Status.word
  simp only [toNat_append_add, bit, BitVec.toNat_ofNat]
  split <;> split <;> omega

/-- Settles O37: STATUS's number at its offset, and the codes as the tables give them. -/
theorem statusWordLayout : Obligations.StatusWordLayout :=
  ⟨fun s => statusWord_toNat s.status, rfl, rfl, rfl, rfl, rfl, rfl, rfl, rfl, rfl, rfl, rfl, rfl, rfl, rfl, rfl, rfl,
    rfl, rfl⟩

/-! Host writes to a register (10_state.md R23, R24). -/

/-- A host write at a register's offset. -/
theorem busWrite_offset (s : State) (r : Reg) (v : Word) : s.busWrite r.offset v = s.writeReg r v := by
  cases r <;> rfl

/-- The registers a host write stores into: the descriptor and RX_CAP (10_state.md R31, R33). -/
def Reg.writable : Reg → Bool
  | .txDest | .txService | .txObjType | .txObjId | .txPropId | .txValueLen | .rxCap => true
  | .cmd | .status | .chk | .txFrameLen | .rxHdrFlags | .rxSrc | .rxDest | .rxBodyLen | .rxBodyFlags | .rxService
  | .rxObjType | .rxObjId | .rxPropId | .rxValueLen | .rxErrCode | .codecInt | .codecFloat => false

theorem writeReg_of_not_writable (h : r.writable = false) (s : State) (v : Word) : s.writeReg r v = s := by
  cases r with
  | txDest | txService | txObjType | txObjId | txPropId | txValueLen | rxCap => exact nomatch h
  | _ => rfl

/-- The low bits of a word as the remainder of its number. -/
theorem truncate_eq_ofNat_mod (v : Word) (k : Nat) : v.truncate k = BitVec.ofNat k (v.toNat % 2 ^ k) :=
  BitVec.eq_of_toNat_eq (by simp)

/-- A step at an aligned host word write other than to CMD. -/
theorem step_hostWrite {offset : BitVec 20} {v : Word} {rest : List Action}
    (h : s.agenda = .host (.write offset 4 v) :: rest) (hal : offset.toNat % 4 = 0) (ho : offset ≠ 0x00000#20) :
    step s = .next ((s.setAgenda rest).busWrite offset.toNat v) := by
  have hwf : (Access.write offset 4 v).wf = true := by
    simp only [Access.wf, Access.isWord, Access.aligned, Access.bytes, Access.offset, hal, decide_true, Bool.and_self]
  rw [step_of_agenda h, act, hostAccess_write hwf, if_neg (mt regAt_cmd.1 ho)]

/-- Settles O38: a write at an RW register's offset is `writeReg`, whose truncation is a remainder; at an RO register's it
does nothing. -/
theorem registerWritesTruncateOrAreIgnored : Obligations.RegisterWritesTruncateOrAreIgnored := by
  refine ⟨fun s offset v rest => step_hostWrite, fun s v => ?_, fun s v offset ho => ?_⟩
  · rw [← truncate_eq_ofNat_mod, ← truncate_eq_ofNat_mod]
    exact ⟨rfl, rfl, rfl, rfl, rfl, rfl, rfl⟩
  · have hro : ∃ r : Reg, r.offset = offset ∧ r.writable = false := by
      obtain ⟨r, -, hr⟩ : ∃ r ∈ allRegs, r.offset = offset ∧ r.writable = false := by
        revert offset
        decide
      exact ⟨r, hr⟩
    obtain ⟨r, rfl, hr⟩ := hro
    rw [busWrite_offset, writeReg_of_not_writable hr]

/-! Offsets with nothing behind them (20_memory.md R54). -/

theorem regAt_eq_none_of_forall (h : ∀ r : Reg, r.offset ≠ n) : regAt n = none :=
  Option.eq_none_iff_forall_ne_some.2 fun r hr => h r (regAt_eq_some hr).symm

/-- Settles O40: no register and no window holds the offset. -/
theorem unmappedOffsetsReadZeroAndIgnoreWrites : Obligations.UnmappedOffsetsReadZeroAndIgnoreWrites := by
  intro s v offset h
  have hreg : regAt offset = none := by
    refine regAt_eq_none_of_forall fun r hr => ?_
    have hlt := r.offset_lt
    rcases h with ⟨-, hno⟩ | hge
    · subst hr
      exact hno (by cases r <;> decide)
    · omega
  have hwin : windowAt offset = none := by
    rw [windowAt, if_neg (by omega), if_neg (by omega), if_neg (by omega)]
  rw [State.busRead, State.busWrite, hreg, hwin]
  exact ⟨rfl, rfl⟩

/-! Which accesses are answered (20_memory.md R56). -/

theorem commandWrite_next (w : Word) (s : State) : ∃ t, commandWrite w s = .next t := by
  unfold commandWrite dispatchCommand
  split
  · exact ⟨_, rfl⟩
  · split
    · exact ⟨_, rfl⟩
    · exact exec_next _ s

/-- An access of the interface is answered, whatever it reads or writes. -/
theorem hostAccess_next {a : Access} (h : a.wf = true) (s : State) : ∃ t, hostAccess commandWrite a s = .next t := by
  cases a with
  | read o n => exact ⟨_, hostAccess_read h⟩
  | write o n v =>
    rw [hostAccess_write h]
    split
    · exact commandWrite_next v s
    · exact ⟨_, rfl⟩

theorem hostAccess_of_not_word {f : Word → State → Out} {a : Access} (h : a.bytes ≠ 4) :
    hostAccess f a s = .refused .notWordAccess := by
  simp only [hostAccess, Access.isWord, h, decide_false, Bool.not_false, if_true]

theorem hostAccess_of_misaligned {f : Word → State → Out} {a : Access} (hw : a.bytes = 4)
    (h : a.offset.toNat % 4 ≠ 0) : hostAccess f a s = .refused .misalignedAccess := by
  simp only [hostAccess, Access.isWord, Access.aligned, hw, h, decide_true, decide_false, Bool.not_true, Bool.not_false,
    Bool.false_eq_true, if_false, if_true]

theorem access_wf_iff {a : Access} : a.wf = true ↔ a.bytes = 4 ∧ a.offset.toNat % 4 = 0 := by
  simp only [Access.wf, Access.isWord, Access.aligned, Bool.and_eq_true, decide_eq_true_eq]

/-- Settles O41: the size is looked at first, then the alignment, and every other access is answered. -/
theorem subWordAndMisalignedAccessesAreRefused : Obligations.SubWordAndMisalignedAccessesAreRefused := by
  intro s a rest h
  rw [step_of_agenda h, act]
  exact ⟨hostAccess_of_not_word, hostAccess_of_misaligned,
    fun hw hal => hostAccess_next (access_wf_iff.2 ⟨hw, hal⟩) _⟩

/-! What a host access changes (20_memory.md R60). -/

/-- What the host reads does not depend on the coming actions. -/
@[simp] theorem busRead_setAgenda (s : State) (rest : List Action) (n : Nat) :
    (s.setAgenda rest).busRead n = s.busRead n := by
  unfold State.busRead
  split
  next r _ => cases r <;> rfl
  next => split <;> simp only [State.memRead_setAgenda]

/-- Nor does it depend on what was read before. -/
@[simp] theorem busRead_setBusData (s : State) (v : Word) (n : Nat) : (s.setBusData v).busRead n = s.busRead n := by
  unfold State.busRead
  split
  next r _ => cases r <;> rfl
  next => split <;> simp only [State.memRead_setBusData]

theorem step_hostRead {offset : BitVec 20} {rest : List Action} (h : s.agenda = .host (.read offset 4) :: rest)
    (hal : offset.toNat % 4 = 0) :
    step s = .next ((s.setAgenda rest).setBusData (s.busRead offset.toNat)) := by
  rw [step_of_agenda h, act, hostAccess_read (access_wf_iff.2 ⟨rfl, hal⟩), busRead_setAgenda]

/-- The register map gives back every register. -/
theorem regAt_offset (r : Reg) : regAt r.offset = some r := by cases r <;> rfl

theorem Reg.offset_inj {q : Reg} : q.offset = r.offset ↔ q = r :=
  ⟨fun h => Option.some.inj ((regAt_offset q).symm.trans (h ▸ regAt_offset r)), fun h => h ▸ rfl⟩

/-- A register of the host's side after a host write: the stored value at its own offset, the old one elsewhere. -/
theorem busWrite_register {α : Type} {f : State → α} {x : α} {v : Word} (r : Reg)
    (hreg : ∀ q, f (s.writeReg q v) = if q = r then x else f s)
    (hmem : ∀ cells, f (s.setMem .txval cells) = f s) : f (s.busWrite n v) = if n = r.offset then x else f s := by
  cases hq : regAt n with
  | some q =>
    obtain rfl := regAt_eq_some hq
    rw [busWrite_offset, hreg]
    exact if_congr Reg.offset_inj.symm rfl rfl
  | none =>
    have hne : n ≠ r.offset := by
      rintro rfl
      exact nomatch hq.symm.trans (regAt_offset r)
    rw [if_neg hne, State.busWrite, hq]
    dsimp only
    split
    · exact hmem _
    · rfl
    · rfl
    · rfl

/-- TXVAL's window (20_memory.md R54). -/
theorem windowAt_eq_txval_iff {k : Nat} :
    windowAt n = some (.txval, k) ↔ n = 0x40000 + k ∧ k < 0x20000 := by
  constructor
  · intro h
    unfold windowAt at h
    split_ifs at h
    all_goals simp at h
    omega
  · rintro ⟨rfl, hk⟩
    exact windowAt_txval hk

/-- Outside its window a host write leaves TXVAL as it is. -/
theorem byteAt_txval_busWrite_outside (h : n < 0x40000 ∨ 0x60000 ≤ n) (v : Word) (j : Nat) :
    (s.busWrite n v).byteAt .txval j = s.byteAt .txval j := by
  unfold State.busWrite
  split
  next r _ => cases r <;> rfl
  next =>
    split
    next k hk =>
      have := windowAt_eq_txval_iff.1 hk
      omega
    all_goals rfl

/-- TXVAL after a host write: the bytes of its window that the word covers, as far as the memory has them. -/
theorem byteAt_txval_busWrite (hal : n % 4 = 0) (v : Word) (j : Nat) :
    (s.busWrite n v).byteAt .txval j =
      if n ≤ 0x40000 + j ∧ 0x40000 + j < n + 4 ∧ j < s.cfg.txvalBytes then v.extractLsb' (8 * (0x40000 + j - n)) 8
      else s.byteAt .txval j := by
  have hsize : s.memSize .txval = s.cfg.txvalBytes := rfl
  have hmax : s.cfg.txvalBytes < 0x20000 := by
    have := s.cfg.spare.isLt
    rw [Config.txvalBytes_eq]
    omega
  by_cases hwin : 0x40000 ≤ n ∧ n < 0x60000
  · obtain ⟨k, rfl⟩ := Nat.exists_eq_add_of_le hwin.1
    rw [busWrite_of_windowAt_txval (windowAt_txval (by omega)), byteAt_storeBytes_bytesLe, hsize,
      Nat.add_sub_add_left]
    exact if_congr (by omega) rfl rfl
  · rw [byteAt_txval_busWrite_outside (by omega), if_neg (by omega)]

/-- The low bits of a word, as the statements write them. -/
theorem truncate_eq_extractLsb' (v : Word) (k : Nat) : v.truncate k = v.extractLsb' 0 k :=
  BitVec.eq_of_toNat_eq (by simp)

/-- Settles O42: a read stores its word on the bus; a write is `busWrite`, read back register by register and byte by
byte. -/
theorem hostReadsHaveNoSideEffect : Obligations.HostReadsHaveNoSideEffect := by
  refine ⟨fun s offset rest h hal => ⟨step_hostRead h hal, fun o => ?_⟩, fun s offset v rest h hal ho => ?_⟩
  · exact (busRead_setBusData (s.setAgenda rest) _ o).trans (busRead_setAgenda s rest o)
  · have stored {α : Type} (f : State → α) {x : α} (r : Reg) :=
      busWrite_register (s := s.setAgenda rest) (n := offset.toNat) (v := v) (f := f) (x := x) r
    have hoff (k : BitVec 20) : offset.toNat = k.toNat ↔ offset = k := BitVec.toNat_inj
    simp only [← truncate_eq_extractLsb', ← hoff]
    refine ⟨_, step_hostWrite h hal ho, ?_, ?_, ?_, ?_, ?_, ?_, ?_, ?_,
      byteAt_txval_busWrite (s := s.setAgenda rest) hal v⟩
    · rw [State.busWrite_shape]
      rfl
    · exact stored (·.tx.dest) .txDest (fun q => by cases q <;> rfl) fun _ => rfl
    · exact stored (·.tx.service) .txService (fun q => by cases q <;> rfl) fun _ => rfl
    · exact stored (·.tx.objType) .txObjType (fun q => by cases q <;> rfl) fun _ => rfl
    · exact stored (·.tx.objId) .txObjId (fun q => by cases q <;> rfl) fun _ => rfl
    · exact stored (·.tx.propId) .txPropId (fun q => by cases q <;> rfl) fun _ => rfl
    · exact stored (·.tx.valueLen) .txValueLen (fun q => by cases q <;> rfl) fun _ => rfl
    · exact stored (·.rxCap) .rxCap (fun q => by cases q <;> rfl) fun _ => rfl

end Sys2Proof.Machine
end

section
/-! PROOFS. What each command leaves unchanged (10_state.md R22, R23, R31, R35-R38; O9). -/

namespace Sys2Proof.Machine

open Sys2Proof

variable {s t : State} {i : Instr} {m : MemId} {j : Nat}

/-- ENCODE writes SCRATCH, TX_FRAME_LEN and STATUS alone. -/
theorem encodeFrame_shape (s : State) :
    ∃ cells n st, encodeFrame s = { s with scratch := cells, txFrameLen := n, status := st } := by
  unfold encodeFrame
  split <;> exact ⟨_, _, _, rfl⟩

/-- DECODE's start step writes the RX_* registers, dec_cap, dec_pos and STATUS alone. -/
theorem decodeStart_shape (s : State) :
    ∃ r cap pos st, decodeStart s = { s with rx := r, decCap := cap, decPos := pos, status := st } := by
  unfold decodeStart
  split <;> exact ⟨_, _, _, _, rfl⟩

/-- Everything a command can be: the busy fault; one that writes its result register and is over; ENCODE; DECODE. -/
theorem exec_cases (h : exec i s = .next t) :
    s.status.busy = true ∧ t = s.busyFault ∨
    (s.status.busy = false ∧ i ≠ .encode ∧ i ≠ .decode ∧
      ∃ c v f, t = { s with chk := c, codecInt := v, codecFloat := f, status := s.status.ended .ok }) ∨
    s.status.busy = false ∧ i = .encode ∧ t = encodeFrame s ∨
    s.status.busy = false ∧ i = .decode ∧ t = decodeStart s := by
  cases hb : s.status.busy with
  | true =>
    rw [exec_busy hb, Host.Outcome.next.injEq] at h
    exact .inl ⟨rfl, h.symm⟩
  | false =>
    rw [exec_idle hb, Host.Outcome.next.injEq] at h
    cases i with
    | encode => exact .inr (.inr (.inl ⟨rfl, rfl, h.symm⟩))
    | decode => exact .inr (.inr (.inr ⟨rfl, rfl, h.symm⟩))
    | chkInit | chkByte _ | asInt | asFloat => exact .inr (.inl ⟨rfl, nofun, nofun, _, _, _, h.symm⟩)

/-- The fields no command writes are the same in both states. -/
structure State.CommandFrame (s t : State) : Prop where
  tx        : t.tx = s.tx
  rxCap     : t.rxCap = s.rxCap
  cfg       : t.cfg = s.cfg
  draw      : t.draw = s.draw
  agenda    : t.agenda = s.agenda
  rxAnswers : t.rxAnswers = s.rxAnswers
  sent      : t.sent = s.sent
  accepted  : t.accepted = s.accepted
  busData   : t.busData = s.busData
  txval     : t.txval = s.txval
  rxval     : t.rxval = s.rxval

theorem exec_commandFrame (h : exec i s = .next t) : s.CommandFrame t := by
  rcases exec_cases h with ⟨-, rfl⟩ | ⟨-, -, -, _, _, _, rfl⟩ | ⟨-, -, rfl⟩ | ⟨-, -, rfl⟩
  case inr.inr.inl =>
    obtain ⟨_, _, _, hshape⟩ := encodeFrame_shape s
    rw [hshape]
    exact ⟨rfl, rfl, rfl, rfl, rfl, rfl, rfl, rfl, rfl, rfl, rfl⟩
  case inr.inr.inr =>
    obtain ⟨_, _, _, _, hshape⟩ := decodeStart_shape s
    rw [hshape]
    exact ⟨rfl, rfl, rfl, rfl, rfl, rfl, rfl, rfl, rfl, rfl, rfl⟩
  all_goals exact ⟨rfl, rfl, rfl, rfl, rfl, rfl, rfl, rfl, rfl, rfl, rfl⟩

/-- A memory whose cells a command keeps reads the same, byte by byte. -/
theorem State.CommandFrame.byteAt (h : s.CommandFrame t) (hm : t.mem m = s.mem m) (j : Nat) :
    t.byteAt m j = s.byteAt m j := State.byteAt_congr h.cfg h.draw hm

/-- Only ENCODE writes TX_FRAME_LEN and SCRATCH. -/
theorem exec_keeps_frame (h : exec i s = .next t) (hi : i ≠ .encode) :
    t.txFrameLen = s.txFrameLen ∧ t.scratch = s.scratch := by
  rcases exec_cases h with ⟨-, rfl⟩ | ⟨-, -, -, _, _, _, rfl⟩ | ⟨-, he, -⟩ | ⟨-, -, rfl⟩
  · exact ⟨rfl, rfl⟩
  · exact ⟨rfl, rfl⟩
  · exact absurd he hi
  · obtain ⟨_, _, _, _, hshape⟩ := decodeStart_shape s
    rw [hshape]
    exact ⟨rfl, rfl⟩

/-- Only DECODE writes the RX_* registers, dec_pos and dec_cap. -/
theorem exec_keeps_decoder (h : exec i s = .next t) (hi : i ≠ .decode) :
    t.rx = s.rx ∧ t.decPos = s.decPos ∧ t.decCap = s.decCap := by
  rcases exec_cases h with ⟨-, rfl⟩ | ⟨-, -, -, _, _, _, rfl⟩ | ⟨-, -, rfl⟩ | ⟨-, hd, -⟩
  · exact ⟨rfl, rfl, rfl⟩
  · exact ⟨rfl, rfl, rfl⟩
  · obtain ⟨_, _, _, hshape⟩ := encodeFrame_shape s
    rw [hshape]
    exact ⟨rfl, rfl, rfl⟩
  · exact absurd hd hi

/-- An ENCODE whose frame does not fit leaves SCRATCH, and one whose frame fits leaves it past the frame. -/
theorem byteAt_scratch_encodeFrame_outside (h : 26 + s.txLen > s.cfg.frameBufCap ∨ 26 + s.txLen ≤ j) :
    (encodeFrame s).byteAt .scratch j = s.byteAt .scratch j := by
  rcases Nat.lt_or_ge s.cfg.frameBufCap (26 + s.txLen) with hbig | hfit
  · rw [encodeFrame_refused hbig]
    exact State.byteAt_congr rfl rfl rfl
  · rw [byteAt_scratch_encodeFrame_accepted hfit]
    refine State.byteAt_storeBytes_outside (.inr ?_)
    rw [requestFrame_length]
    omega

/-- While a DECODE runs, a command sets FAULT_BUSY alone. -/
theorem exec_while_busy (h : exec i s = .next t) (hb : s.status.busy = true) : t = s.busyFault := by
  rw [exec_busy hb, Host.Outcome.next.injEq] at h
  exact h.symm

/-- SCRATCH changes only by an ENCODE that is neither busy nor too long, and only below 26 + N. -/
theorem exec_byteAt_scratch (h : exec i s = .next t)
    (hj : s.status.busy = true ∨ 26 + s.txLen > s.cfg.frameBufCap ∨ 26 + s.txLen ≤ j) :
    t.byteAt .scratch j = s.byteAt .scratch j := by
  by_cases hi : i = .encode
  · subst hi
    cases hb : s.status.busy with
    | true =>
      rw [exec_while_busy h hb]
      exact State.byteAt_busyFault
    | false =>
      rw [exec_idle hb, Host.Outcome.next.injEq] at h
      rw [← h]
      exact byteAt_scratch_encodeFrame_outside (hj.resolve_left (by rw [hb]; nofun))
  · exact (exec_commandFrame h).byteAt (m := .scratch) (exec_keeps_frame h hi).2 j

/-- What the busy fault keeps is kept by a command as soon as it is kept while no DECODE runs. -/
theorem exec_register_kept {α : Type} {f : State → α} (h : exec i s = .next t) (hbusy : f s.busyFault = f s)
    (hidle : s.status.busy = false → f t = f s) : f t = f s := by
  cases hb : s.status.busy with
  | true => rw [exec_while_busy h hb, hbusy]
  | false => exact hidle hb

/-- Settles O9: the fields no command writes, then each register and memory with the commands that do. -/
theorem commandsFrame : Obligations.CommandsFrame := by
  intro i s t h
  have hf := exec_commandFrame h
  refine ⟨hf.tx, hf.rxCap, hf.cfg, hf.draw, hf.agenda, hf.rxAnswers, hf.sent, hf.accepted, hf.busData,
    hf.byteAt (m := .txval) hf.txval, hf.byteAt (m := .rxval) hf.rxval, fun hi => ?_,
    fun j hj => exec_byteAt_scratch h hj, fun hinit hbyte => ?_, fun hi => ?_, fun hi => ?_, exec_keeps_decoder h, fun hb => exec_idle_faultBusy hb h, fun hb => ?_⟩
  · obtain ⟨hlen, hscratch⟩ := exec_keeps_frame h hi
    exact ⟨hlen, hf.byteAt (m := .scratch) hscratch⟩
  · refine exec_register_kept (f := State.chk) h rfl fun hb => ?_
    by_contra hc
    rcases exec_changes_chk hb h hc with hi | ⟨b, hi⟩
    · exact hinit hi
    · exact hbyte b hi
  · refine exec_register_kept (f := State.codecInt) h rfl fun hb => ?_
    by_contra hc
    exact hi (exec_changes_codecInt hb h hc).1
  · refine exec_register_kept (f := State.codecFloat) h rfl fun hb => ?_
    by_contra hc
    exact hi (exec_changes_codecFloat hb h hc).1
  · rw [exec_while_busy h hb]
    exact ⟨rfl, rfl⟩

end Sys2Proof.Machine
end

section
/-! PROOFS. The fields of the frame ENCODE builds, read at their positions in SCRATCH (30_encoding.md R75, R76;
41_encoder.md R98-R100; O18). -/

namespace Sys2Proof.Machine

open Sys2Proof

variable {s t : State} {m : MemId} {hdr bdy pre bs post : List Byte} {i k n : Nat}

/-! Reading inside a longer sequence. -/

theorem byteOf_inside (h : k < bs.length) : byteOf (pre ++ bs ++ post) (pre.length + k) = byteOf bs k := by
  rw [List.append_assoc, byteOf_append_right, byteOf_append_left _ _ _ h]

theorem le16_inside (h : k + 1 < bs.length) : le16 (pre ++ bs ++ post) (pre.length + k) = le16 bs k := by
  rw [le16, Nat.add_assoc, byteOf_inside (by omega), byteOf_inside h, le16]

theorem le32_inside (h : k + 3 < bs.length) : le32 (pre ++ bs ++ post) (pre.length + k) = le32 bs k := by
  simp only [le32, Nat.add_assoc]
  rw [byteOf_inside (by omega), byteOf_inside (by omega), byteOf_inside (by omega), byteOf_inside h]

theorem State.holds_inside (h : s.holds m i (pre ++ bs ++ post)) : s.holds m (i + pre.length) bs := by
  obtain ⟨h, -⟩ := State.holds_append.1 h
  exact (State.holds_append.1 h).2

/-! A frame cut at its header, at its body and at its value. -/

theorem frameOf_eq_header (hdr bdy : List Byte) :
    frameOf hdr bdy = [startMarker] ++ hdr ++ ((checksum hdr).bytes ++ bdy ++ (checksum bdy).bytes) := by
  simp only [frameOf, List.append_assoc]

theorem frameOf_eq_body (hdr bdy : List Byte) :
    frameOf hdr bdy = ([startMarker] ++ spanOf hdr) ++ bdy ++ (checksum bdy).bytes := by
  simp only [frameOf, spanOf, List.append_assoc]

/-- The ten bytes of a property body before its value (30_encoding.md R76). -/
def State.bodyFields (s : State) : List Byte :=
  [0x00, s.tx.service] ++ bytesLe s.tx.objType 2 ++ bytesLe s.tx.objId 4 ++ bytesLe s.tx.propId 2

theorem requestFrame_eq_value (s : State) :
    s.requestFrame =
      ([startMarker] ++ spanOf s.requestHeader ++ s.bodyFields) ++ s.txValue ++ (checksum (s.bodyWith 0x00)).bytes := by
  rw [requestFrame_eq, frameOf_eq_body, State.bodyWith, propertyBody, State.bodyFields]
  simp only [List.append_assoc]

/-! The spans of the frame as the host finds them in SCRATCH. -/

section

variable (h : t.holds .scratch 0 s.requestFrame)

include h

theorem holds_requestHeader : t.memRead .scratch 1 11 = s.requestHeader := by
  rw [requestFrame_eq, frameOf_eq_header] at h
  exact State.holds_inside h

theorem holds_requestBody : t.memRead .scratch 14 (10 + s.txLen) = s.bodyWith 0x00 := by
  rw [requestFrame_eq, frameOf_eq_body] at h
  rw [← bodyWith_length s 0x00]
  exact State.holds_inside h

theorem holds_requestValue : t.memRead .scratch 24 s.txLen = s.txValue := by
  rw [requestFrame_eq_value] at h
  rw [← txValue_length]
  exact State.holds_inside h

end

/-! The fields of the frame. -/

theorem requestHeader_length (s : State) : s.requestHeader.length = 11 := rfl

/-- The header's fields stand one byte after their place in the header (30_encoding.md R75). -/
theorem requestFrame_headerFields (s : State) (hn : 10 + s.txLen < 65536) :
    byteOf s.requestFrame 1 = 0x00#8 ∧ le32 s.requestFrame 2 = localAddr ∧ le32 s.requestFrame 6 = s.tx.dest ∧
      (le16 s.requestFrame 10).toNat = 10 + s.txLen := by
  have hlen := requestHeader_length s
  rw [requestFrame_eq, frameOf_eq_header]
  refine ⟨rfl, ?_, ?_, ?_⟩
  · exact (le32_inside (pre := [startMarker]) (k := 1) (by omega)).trans (le32_headerBytes_src ..)
  · exact (le32_inside (pre := [startMarker]) (k := 5) (by omega)).trans (le32_headerBytes_dest ..)
  · exact (congrArg _ (le16_inside (pre := [startMarker]) (k := 9) (by omega))).trans (le16_requestHeader hn)

/-- The body's fields stand fourteen bytes after their place in the body (30_encoding.md R76). -/
theorem requestFrame_bodyFields (s : State) :
    byteOf s.requestFrame 14 = 0x00#8 ∧ byteOf s.requestFrame 15 = s.tx.service ∧
      le16 s.requestFrame 16 = s.tx.objType ∧ le32 s.requestFrame 18 = s.tx.objId ∧
      le16 s.requestFrame 22 = s.tx.propId := by
  have hlen := bodyWith_length s 0x00
  rw [requestFrame_eq, frameOf_eq_body]
  refine ⟨rfl, rfl, ?_, ?_, ?_⟩
  · exact (le16_inside (pre := [startMarker] ++ spanOf s.requestHeader) (k := 2) (by omega)).trans
      (le16_propertyBody_objType ..)
  · exact (le32_inside (pre := [startMarker] ++ spanOf s.requestHeader) (k := 4) (by omega)).trans
      (le32_propertyBody_objId ..)
  · exact (le16_inside (pre := [startMarker] ++ spanOf s.requestHeader) (k := 8) (by omega)).trans
      (le16_propertyBody_propId ..)

theorem requestFrame_headerChecksum (s : State) :
    byteOf s.requestFrame 12 = (checksum s.requestHeader).a ∧
      byteOf s.requestFrame 13 = (checksum s.requestHeader).b := ⟨rfl, rfl⟩

/-- The body checksum ends the frame. -/
theorem requestFrame_bodyChecksum (s : State) :
    byteOf s.requestFrame (24 + s.txLen) = (checksum (s.bodyWith 0x00)).a ∧
      byteOf s.requestFrame (25 + s.txLen) = (checksum (s.bodyWith 0x00)).b := by
  have hlen : ([startMarker] ++ spanOf s.requestHeader ++ s.bodyWith 0x00).length = 24 + s.txLen := by
    rw [List.length_append, List.length_append, spanOf_length, requestHeader_length, bodyWith_length]
    simp only [List.length_singleton]
    omega
  rw [requestFrame_eq, frameOf_eq_body, ← hlen, show 25 + s.txLen = 24 + s.txLen + 1 by omega, ← hlen]
  exact ⟨byteOf_append_right _ (checksum (s.bodyWith 0x00)).bytes 0, byteOf_append_right _ _ 1⟩

/-- Settles O18: SCRATCH holds the request frame, and each field is read from its header, its body or its checksums. -/
theorem encodedFieldsStandAtTheirPositions : Obligations.EncodedFieldsStandAtTheirPositions := by
  intro s t hb hfit h
  rw [exec_idle hb, Host.Outcome.next.injEq] at h
  subst h
  have hcap := s.cfg.frameBufCap_le
  have hread : (encodeFrame s).memRead .scratch 0 (26 + s.tx.valueLen.toNat) = s.requestFrame :=
    memRead_scratch_encodeFrame hfit
  have hholds : (encodeFrame s).holds .scratch 0 s.requestFrame := by
    rw [State.holds, requestFrame_length]
    exact hread
  have hbody : (encodeFrame s).memRead .scratch 14 (10 + s.tx.valueLen.toNat) = s.bodyWith 0x00 :=
    holds_requestBody hholds
  obtain ⟨hflags, hsrc, hdest, hlen⟩ := requestFrame_headerFields s (show 10 + s.tx.valueLen.toNat < 65536 by omega)
  obtain ⟨hbflags, hservice, htype, hid, hprop⟩ := requestFrame_bodyFields s
  obtain ⟨hha, hhb⟩ := requestFrame_headerChecksum s
  obtain ⟨hba, hbb⟩ := requestFrame_bodyChecksum s
  dsimp only
  rw [hread, holds_requestHeader hholds, hbody]
  exact ⟨rfl, hflags, hsrc, hdest, hlen, hha, hhb, hbflags, hservice, htype, hid, hprop, holds_requestValue hholds,
    hba, hbb⟩

end Sys2Proof.Machine
end

section
/-! PROOFS. The block's turn: it takes one event exactly while a DECODE runs, it never stops in a state of the invariant,
and it brings a DECODE to its end (42_decoder.md R106, R122; O20, O53, O28). -/

namespace Sys2Proof.Machine

open Sys2Proof

variable {s t : State} {ev : RxEvent} {evs : List RxEvent}

theorem receiveTurn_no_answer (h : s.rxAnswers = []) : receiveTurn s = .next s := by
  unfold receiveTurn
  rw [h]
  exact ite_self _

theorem receiveTurn_answer (hb : s.status.busy = true) (h : s.rxAnswers = ev :: evs) :
    receiveTurn s = receiveStep ev (s.setAnswers evs) := by
  unfold receiveTurn
  rw [if_pos hb, h]

/-- A DECODE that runs is in one of the three phases with a receive step (10_state.md R26). -/
theorem phase_of_busy (h : s.phaseOk) (hb : s.status.busy = true) :
    s.status.phase = .seekStart ∨ s.status.phase = .readHeader ∨ s.status.phase = .readBody := by
  cases hp : s.status.phase with
  | seekStart => exact .inl rfl
  | readHeader => exact .inr (.inl rfl)
  | readBody => exact .inr (.inr rfl)
  | idle =>
    simp only [State.phaseOk, hp] at h
    exact nomatch h.symm.trans hb
  | validateHeader | validateBody => simp only [State.phaseOk, hp] at h

/-- In those phases a receive step answers a next state. -/
theorem receiveStep_next (h : s.status.phase = .seekStart ∨ s.status.phase = .readHeader ∨ s.status.phase = .readBody)
    (ev : RxEvent) : ∃ t, receiveStep ev s = .next t := by
  unfold receiveStep
  rcases h with hp | hp | hp <;> rw [hp] <;> exact ⟨_, rfl⟩

/-- Settles O20: with no event the turn waits, and with one the phase decides what is done with it. -/
theorem receiveStepConsumesExactlyOneEvent : Obligations.ReceiveStepConsumesExactlyOneEvent := by
  intro s rest h
  refine ⟨fun hb => ?_, fun hnone => ?_, fun ev evs hb hphase hev => ?_⟩
  · rw [step_atTurn h]
    exact receiveTurn_idle (s := s.setAgenda rest) hb
  · rw [step_atTurn h]
    exact receiveTurn_no_answer (s := s.setAgenda rest) hnone
  · have hrec : s.receives ev evs rest := ⟨h, hb, hev⟩
    intro u
    have hu : u = (s.setAgenda rest).setAnswers evs := rfl
    rw [hu]
    refine ⟨step_receives_seekStart hrec, step_receives_readHeader hrec, step_receives_readBody hrec, ?_⟩
    obtain ⟨t, ht⟩ := receiveStep_next (s := (s.setAgenda rest).setAnswers evs) (phase_of_busy hphase hb) ev
    have hf := receiveStep_decoderFrame ht
    exact ⟨t, (step_receives hrec).trans ht, hf.rxAnswers, hf.agenda⟩

/-! The one fault is out of reach. -/

theorem receiveTurn_next (h : s.phaseOk) : ∃ t, receiveTurn s = .next t := by
  cases hb : s.status.busy with
  | false => exact ⟨s, receiveTurn_idle hb⟩
  | true =>
    cases ha : s.rxAnswers with
    | nil => exact ⟨s, receiveTurn_no_answer ha⟩
    | cons ev evs =>
      rw [receiveTurn_answer hb ha]
      exact receiveStep_next (s := s.setAnswers evs) (phase_of_busy h hb) ev

/-- A host access is answered or refused. -/
theorem hostAccess_ne_fault (a : Access) (s : State) (f : Fault) : hostAccess commandWrite a s ≠ .fault f := by
  intro h
  by_cases hw : a.bytes = 4
  · by_cases hal : a.offset.toNat % 4 = 0
    · obtain ⟨t, ht⟩ := hostAccess_next (access_wf_iff.2 ⟨hw, hal⟩) s
      exact nomatch ht.symm.trans h
    · exact nomatch (hostAccess_of_misaligned hw hal).symm.trans h
  · exact nomatch (hostAccess_of_not_word hw).symm.trans h

/-- Settles O53: only the block's turn could fault, and it answers in every phase of the invariant. -/
theorem noFaultFromTheInvariant : Obligations.NoFaultFromTheInvariant := by
  intro s f h hstep
  have hturn (rest : List Action) (hat : s.atTurn rest) : False := by
    obtain ⟨t, ht⟩ := receiveTurn_next (s := s.setAgenda rest) h.phase
    exact nomatch ((step_atTurn hat).trans ht).symm.trans hstep
  cases ha : s.agenda with
  | nil => exact hturn [] (.inl ⟨ha, rfl⟩)
  | cons a rest =>
    cases a with
    | receive => exact hturn rest (.inr ha)
    | host x => exact hostAccess_ne_fault x _ f ((step_of_agenda ha).symm.trans hstep)
    | arrive _ | transmit _ _ | reset => exact nomatch (step_of_agenda ha).symm.trans hstep

/-! How a DECODE ends (42_decoder.md R122). -/

/-- A Timeout or an IoFault ends the DECODE in every phase. -/
theorem receiveStep_ends (hev : ev = .timeout ∨ ev = .ioFault) (h : receiveStep ev s = .next t) :
    t.status.busy = false := by
  rcases receiveStep_cases h with ⟨-, rfl⟩ | ⟨-, rfl⟩ | ⟨-, rfl⟩
  · rcases hev with rfl | rfl <;> rfl
  · rw [header_short hev]
    rfl
  · rw [body_short hev]
    rfl

/-- CLASSIFY always ends the DECODE. -/
theorem classify_busy (y : List Byte) (s : State) : (classify y s).status.busy = false := by
  rcases classify_cases y s with ⟨-, r, c, hend, -⟩ | ⟨-, hdeliver⟩
  · rw [hend]
    rfl
  · rw [hdeliver]
    unfold deliver
    split <;> rfl

theorem validateBody_busy (s : State) : (validateBody s).status.busy = false := by
  unfold validateBody
  split
  · exact classify_busy _ s
  · rfl

/-- A receive step of READ_BODY ends the DECODE or takes it one byte further. -/
theorem body_progress (h : s.ReadBodyOk) (ev : RxEvent) :
    (body ev s).status.busy = false ∨
      (body ev s).status = s.status ∧ (body ev s).rx = s.rx ∧ (body ev s).decPos.toNat = s.decPos.toNat + 1 := by
  have hcap := s.cfg.frameBufCap_le
  have hhigh := h.high
  have hfits := h.fits
  cases ev with
  | timeout | ioFault => exact .inl rfl
  | byte b =>
    by_cases hlast : s.decPos.toNat + 1 = 16 + s.rx.bodyLen.toNat
    · rw [body_byte_last (by omega) hlast]
      exact .inl (validateBody_busy _)
    · rw [body_byte_of_ne (by omega) hlast]
      exact .inr ⟨rfl, rfl, storeFrameByte_decPos (by omega)⟩

/-- A turn of a running DECODE with an event next: it takes the event and keeps the invariant. -/
theorem step_event (h : s.Inv) (ha : s.agenda = []) (hb : s.status.busy = true) (hev : s.rxAnswers = ev :: evs) :
    ∃ t, step s = .next t ∧ receiveStep ev ((s.setAgenda []).setAnswers evs) = .next t ∧ t.Inv ∧ t.agenda = [] ∧
      t.rxAnswers = evs := by
  have hstep := step_receives (s := s) (rest := []) ⟨.inl ⟨ha, rfl⟩, hb, hev⟩
  obtain ⟨t, ht⟩ := receiveStep_next (s := (s.setAgenda []).setAnswers evs) (phase_of_busy h.phase hb) ev
  have hf := receiveStep_decoderFrame ht
  exact ⟨t, hstep.trans ht, ht, everyStepKeepsTheInvariant s t h (hstep.trans ht), hf.agenda, hf.rxAnswers⟩

/-- Within `k` steps the DECODE is over. -/
def State.endsWithin (s : State) (k : Nat) : Prop :=
  ∃ n t, n ≤ k ∧ Host.Core.run core n s = .next t ∧ t.status.busy = false

theorem State.endsWithin_of_idle (hb : s.status.busy = false) (k : Nat) : s.endsWithin k :=
  ⟨0, s, Nat.zero_le k, rfl, hb⟩

theorem State.endsWithin_succ {k : Nat} (hstep : step s = .next t) (h : t.endsWithin k) : s.endsWithin (k + 1) := by
  obtain ⟨n, u, hn, hrun, hb⟩ := h
  exact ⟨n + 1, u, Nat.succ_le_succ hn, (run_succ_of_step hstep n).trans hrun, hb⟩

/-- A Timeout or an IoFault ends the DECODE, if nothing before it does: induction on the events before it. -/
theorem endsWithin_of_failure {more : List RxEvent} (hev : ev = .timeout ∨ ev = .ioFault) (h : s.Inv)
    (ha : s.agenda = []) (hb : s.status.busy = true) (hans : s.rxAnswers = evs ++ ev :: more) :
    s.endsWithin (evs.length + 1) := by
  induction evs generalizing s with
  | nil =>
    obtain ⟨t, hstep, hrec, -⟩ := step_event h ha hb hans
    exact State.endsWithin_succ hstep (State.endsWithin_of_idle (receiveStep_ends hev hrec) 0)
  | cons e evs ih =>
    obtain ⟨t, hstep, -, hinv, hagenda, hanswers⟩ := step_event h ha hb hans
    refine State.endsWithin_succ hstep ?_
    cases hbt : t.status.busy with
    | false => exact State.endsWithin_of_idle hbt _
    | true => exact ih hinv hagenda hbt hanswers

/-- In READ_BODY each event ends the DECODE or brings it one byte nearer to its last byte: induction on the events. -/
theorem endsWithin_of_readBody (h : s.Inv) (ha : s.agenda = []) (hb : s.status.busy = true)
    (hp : s.status.phase = .readBody) (hlen : 16 + s.rx.bodyLen.toNat ≤ s.decPos.toNat + s.rxAnswers.length) :
    s.endsWithin (16 + s.rx.bodyLen.toNat - s.decPos.toNat) := by
  induction hans : s.rxAnswers generalizing s with
  | nil =>
    have hhigh := (h.readBodyOk hp).high
    rw [hans, List.length_nil] at hlen
    omega
  | cons e evs ih =>
    have hhigh := (h.readBodyOk hp).high
    rw [hans, List.length_cons] at hlen
    obtain ⟨t, hstep, hrec, hinv, hagenda, hanswers⟩ := step_event h ha hb hans
    have hbody : t = body e ((s.setAgenda []).setAnswers evs) := by
      rw [receiveStep, State.setAnswers_status, State.setAgenda_status, hp, Host.Outcome.next.injEq] at hrec
      exact hrec.symm
    have hok := ((h.setAgenda []).setAnswers evs).readBodyOk hp
    obtain ⟨k, hk⟩ : ∃ k, 16 + s.rx.bodyLen.toNat - s.decPos.toNat = k + 1 := Nat.exists_eq_add_one.2 (by omega)
    rw [hk]
    refine State.endsWithin_succ hstep ?_
    rcases body_progress hok e with hend | ⟨hstatus, hrx, hpos⟩
    · exact State.endsWithin_of_idle (hbody ▸ hend) k
    · rw [← hbody] at hstatus hrx hpos
      have hrx : t.rx = s.rx := hrx
      have hpos : t.decPos.toNat = s.decPos.toNat + 1 := hpos
      have hnext := ih hinv hagenda ((congrArg Status.busy hstatus).trans hb) ((congrArg Status.phase hstatus).trans hp)
        (by rw [hrx, hpos, hanswers]; omega) hanswers
      rwa [hrx, hpos, show 16 + s.rx.bodyLen.toNat - (s.decPos.toNat + 1) = k by omega] at hnext

/-- Settles O28: by induction on the events up to the failure, and on those of the body. -/
theorem decodeFinishesWhenTheStreamBringsItTo : Obligations.DecodeFinishesWhenTheStreamBringsItTo := by
  intro s evs h ha hb
  refine ⟨fun more hans => ?_, fun hp hans hlen => ?_⟩
  · rcases hans with hans | hans
    · exact endsWithin_of_failure (.inl rfl) h ha hb hans
    · exact endsWithin_of_failure (.inr rfl) h ha hb hans
  · subst hans
    exact endsWithin_of_readBody h ha hb hp hlen

end Sys2Proof.Machine
end

section
/-! PROOFS. Who writes which memory: a step changes a memory's byte only as a reset, a host write into TXVAL's window, an
ENCODE or a receive step (10_state.md R35-R37; O44, O45, O46). -/

namespace Sys2Proof.Machine

open Sys2Proof

variable {s t : State} {b : Byte} {ev : RxEvent} {y : List Byte} {m : MemId} {j : Nat}

/-- Everything a step that changes a memory's byte can be. -/
theorem step_memory_cases (h : step s = .next t) (hne : t.byteAt m j ≠ s.byteAt m j) :
    (∃ rest, s.agenda = .reset :: rest) ∨
    (∃ o v rest, s.agenda = .host (.write o 4 v) :: rest ∧ o.toNat % 4 = 0 ∧
      t = (s.setAgenda rest).busWrite o.toNat v) ∨
    (∃ w rest, s.atCmdWrite w rest ∧ decodeWord w = some .encode ∧ s.status.busy = false ∧
      t = encodeFrame (s.setAgenda rest)) ∨
    (∃ ev evs rest, s.receives ev evs rest ∧ receiveStep ev ((s.setAgenda rest).setAnswers evs) = .next t) := by
  rcases step_cases h with ⟨rest, hat, ht⟩ | ⟨e, rest, -, rfl⟩ | ⟨bs, k, rest, -, rfl⟩ | ⟨rest, ha, -⟩ |
    ⟨o, rest, -, -, rfl⟩ | ⟨o, v, rest, ha, hal, -, rfl⟩ | ⟨w, rest, hw, hc⟩
  case inl =>
    rcases receiveTurn_cases ht with ⟨rfl, -⟩ | ⟨ev, evs, hb, hev, hstep⟩
    · exact absurd (State.byteAt_setAgenda rest) hne
    · exact .inr (.inr (.inr ⟨ev, evs, rest, ⟨hat, hb, hev⟩, hstep⟩))
  case inr.inr.inr.inl => exact .inl ⟨rest, ha⟩
  case inr.inr.inr.inr.inr.inl => exact .inr (.inl ⟨o, v, rest, ha, hal, rfl⟩)
  case inr.inr.inr.inr.inr.inr =>
    rcases commandWrite_cases hc with ⟨-, rfl⟩ | ⟨-, -, rfl⟩ | ⟨i, hb, hi, he⟩
    · exact absurd (by rw [State.byteAt_busyFault, State.byteAt_setAgenda]) hne
    · exact absurd (by rw [illegalCommand, State.byteAt_finish, State.byteAt_setAgenda]) hne
    · by_cases hie : i = .encode
      · subst hie
        rw [exec_idle (s := s.setAgenda rest) hb, Host.Outcome.next.injEq] at he
        exact .inr (.inr (.inl ⟨w, rest, hw, hi, hb, he.symm⟩))
      · have hf := exec_commandFrame he
        have hmem : t.mem m = (s.setAgenda rest).mem m := by
          cases m with
          | scratch => exact (exec_keeps_frame he hie).2
          | txval => exact hf.txval
          | rxval => exact hf.rxval
        exact absurd ((hf.byteAt hmem j).trans (State.byteAt_setAgenda rest)) hne
  all_goals exact absurd (by cases m <;> rfl) hne

/-! TXVAL (10_state.md R36). -/

theorem byteAt_encodeFrame_other (hm : m ≠ .scratch) : (encodeFrame s).byteAt m j = s.byteAt m j := by
  obtain ⟨_, _, _, hshape⟩ := encodeFrame_shape s
  rw [hshape]
  cases m with
  | scratch => exact absurd rfl hm
  | txval | rxval => rfl

theorem receiveStep_byteAt_txval (h : receiveStep ev s = .next t) : t.byteAt .txval j = s.byteAt .txval j :=
  have hf := receiveStep_decoderFrame h
  State.byteAt_congr hf.cfg hf.draw hf.txval

/-- Settles O44: of the four kinds of step that write a memory, ENCODE and the receive steps leave TXVAL alone. -/
theorem onlyTheHostWritesTxval : Obligations.OnlyTheHostWritesTxval := by
  intro s t j h hne
  rcases step_memory_cases h hne with hreset | ⟨o, v, rest, ha, hal, rfl⟩ | ⟨w, rest, -, -, -, rfl⟩ |
    ⟨ev, evs, rest, -, hstep⟩
  · exact .inl hreset
  · rw [byteAt_txval_busWrite hal] at hne
    split at hne
    case isTrue hin =>
      obtain ⟨hlow, hhigh, -⟩ := hin
      exact .inr ⟨o, v, rest, ha, hhigh, hlow⟩
    case isFalse => exact absurd (State.byteAt_setAgenda rest) hne
  · exact absurd ((byteAt_encodeFrame_other (by decide)).trans (State.byteAt_setAgenda rest)) hne
  · exact absurd (receiveStep_byteAt_txval hstep) hne

/-! RXVAL (10_state.md R37). -/

theorem seek_rxval (ev : RxEvent) (s : State) : (seek ev s).rxval = s.rxval := by
  cases ev with
  | timeout | ioFault => rfl
  | byte b =>
    by_cases hmark : b = startMarker
    · rw [hmark, seek_startMarker]
      rfl
    · rw [seek_of_ne_startMarker hmark]

theorem header_rxval (ev : RxEvent) (s : State) : (header ev s).rxval = s.rxval := by
  cases ev with
  | timeout | ioFault => rfl
  | byte b =>
    obtain ⟨_, _, hshape⟩ := validateHeader_shape (storeFrameByte b s)
    unfold header
    dsimp only
    rw [hshape]
    split <;> rfl

/-- A DELIVER that changes RXVAL finishes OK, and changes it up to the zero after the value. -/
theorem deliver_changes_rxval (hne : (deliver y s).byteAt .rxval j ≠ s.byteAt .rxval j) :
    (deliver y s).status.outcome = .ok ∧ j ≤ (deliver y s).rx.valueLen.toNat := by
  have hcap := s.decCap.isLt
  rcases Nat.lt_or_ge s.decCap.toNat (y.length - 10) with hbig | hfits
  · rw [deliver_of_gt hbig] at hne
    exact absurd (State.byteAt_finish _) hne
  · have hj : j ≤ y.length - 10 := Nat.le_of_not_lt fun hj => hne (byteAt_rxval_deliver_beyond hfits (.inl hj))
    have hlen : (BitVec.ofNat 16 (y.length - 10)).toNat = y.length - 10 := by
      rw [BitVec.toNat_ofNat]
      omega
    rw [deliver_of_le hfits]
    exact ⟨rfl, hj.trans hlen.ge⟩

/-- So does a CLASSIFY: it changes RXVAL only by the delivery. -/
theorem classify_changes_rxval (hne : (classify y s).byteAt .rxval j ≠ s.byteAt .rxval j) :
    (classify y s).status.outcome = .ok ∧ j ≤ (classify y s).rx.valueLen.toNat := by
  rcases classify_cases y s with ⟨-, r, c, hend, -⟩ | ⟨hprop, -⟩
  · rw [hend] at hne
    exact absurd ((State.byteAt_finish _).trans (State.byteAt_setRx _)) hne
  · rw [classify_propertyResponse hprop] at hne ⊢
    exact deliver_changes_rxval fun hkept => hne (hkept.trans (State.byteAt_setRx _))

/-- A receive step of READ_BODY that changes RXVAL is the last byte of a frame that is delivered. -/
theorem body_changes_rxval (hne : (body ev s).byteAt .rxval j ≠ s.byteAt .rxval j) :
    ∃ b, ev = .byte b ∧ (body ev s).status.busy = false ∧ (body ev s).status.outcome = .ok ∧
      j ≤ (body ev s).rx.valueLen.toNat := by
  cases ev with
  | timeout | ioFault => exact absurd (State.byteAt_finish _) hne
  | byte b =>
    have hstore : (storeFrameByte b s).byteAt .rxval j = s.byteAt .rxval j := State.byteAt_congr rfl rfl rfl
    refine ⟨b, rfl, ?_⟩
    unfold body at hne ⊢
    dsimp only at hne ⊢
    split at hne
    case isFalse => exact absurd hstore hne
    case isTrue hlast =>
      rw [if_pos hlast]
      refine ⟨validateBody_busy _, ?_⟩
      unfold validateBody at hne ⊢
      split at hne
      case isFalse => exact absurd ((State.byteAt_finish _).trans hstore) hne
      case isTrue hchk =>
        rw [if_pos hchk]
        exact classify_changes_rxval (hstore ▸ hne)

/-- Settles O45: of the four kinds of step that write a memory only a receive step reaches RXVAL, in READ_BODY. -/
theorem onlyAnOkDeliveryWritesRxval : Obligations.OnlyAnOkDeliveryWritesRxval := by
  intro s t j h hne
  rcases step_memory_cases h hne with hreset | ⟨o, v, rest, -, -, rfl⟩ | ⟨w, rest, -, -, -, rfl⟩ |
    ⟨ev, evs, rest, hrec, hstep⟩
  · exact .inl hreset
  · exact absurd ((State.byteAt_busWrite (by decide) ..).trans (State.byteAt_setAgenda rest)) hne
  · exact absurd ((byteAt_encodeFrame_other (by decide)).trans (State.byteAt_setAgenda rest)) hne
  · have hf := receiveStep_decoderFrame hstep
    have kept (hm : t.rxval = s.rxval) : False := hne (State.byteAt_congr hf.cfg hf.draw hm)
    rcases receiveStep_cases hstep with ⟨-, rfl⟩ | ⟨-, rfl⟩ | ⟨hp, rfl⟩
    · exact (kept (seek_rxval ..)).elim
    · exact (kept (header_rxval ..)).elim
    · obtain ⟨b, rfl, hend⟩ := body_changes_rxval (s := (s.setAgenda rest).setAnswers evs) hne
      exact .inr ⟨b, evs, rest, hrec, hp, hend⟩

/-! SCRATCH (10_state.md R35). -/

/-- A stored byte changes SCRATCH at dec_pos alone. -/
theorem storeFrameByte_changes_scratch (hne : (storeFrameByte b s).byteAt .scratch j ≠ s.byteAt .scratch j) :
    j = s.decPos.toNat ∧ (storeFrameByte b s).byteAt .scratch j = b := by
  have hstore : (storeFrameByte b s).byteAt .scratch j = (s.storeBytes .scratch s.decPos.toNat [b]).byteAt .scratch j :=
    State.byteAt_setDecPos _
  rw [hstore, State.byteAt_storeBytes, List.length_singleton] at hne ⊢
  split at hne
  case isFalse => exact absurd rfl hne
  case isTrue hin =>
    obtain rfl : j = s.decPos.toNat := by omega
    rw [if_pos hin, Nat.sub_self]
    exact ⟨rfl, rfl⟩

theorem seek_changes_scratch (hne : (seek ev s).byteAt .scratch j ≠ s.byteAt .scratch j) :
    ∃ b, ev = .byte b ∧ j = 0 ∧ (seek ev s).byteAt .scratch j = b := by
  cases ev with
  | timeout | ioFault => exact absurd (State.byteAt_finish _) hne
  | byte b =>
    by_cases hmark : b = startMarker
    · subst hmark
      rw [byteAt_seek_startMarker] at hne ⊢
      split at hne
      case isTrue hj => exact ⟨startMarker, rfl, hj, if_pos hj⟩
      case isFalse => exact absurd rfl hne
    · rw [seek_of_ne_startMarker hmark] at hne
      exact absurd rfl hne

theorem byteAt_scratch_header_byte (b : Byte) (s : State) (j : Nat) :
    (header (.byte b) s).byteAt .scratch j = (storeFrameByte b s).byteAt .scratch j := by
  unfold header
  dsimp only
  split
  · exact byteAt_validateHeader
  · rfl

theorem byteAt_scratch_body_byte (b : Byte) (s : State) (j : Nat) :
    (body (.byte b) s).byteAt .scratch j = (storeFrameByte b s).byteAt .scratch j := by
  unfold body
  dsimp only
  split
  · exact byteAt_scratch_validateBody
  · rfl

/-- A receive step changes SCRATCH where the next byte goes, and to that byte. -/
theorem receiveStep_changes_scratch (h : receiveStep ev s = .next t)
    (hne : t.byteAt .scratch j ≠ s.byteAt .scratch j) :
    ∃ b, ev = .byte b ∧ (s.status.phase = .seekStart ∧ j = 0 ∨ s.status.phase ≠ .seekStart ∧ j = s.decPos.toNat) ∧
      t.byteAt .scratch j = b := by
  rcases receiveStep_cases h with ⟨hp, rfl⟩ | ⟨hp, rfl⟩ | ⟨hp, rfl⟩
  · obtain ⟨b, hev, hj, hbyte⟩ := seek_changes_scratch hne
    exact ⟨b, hev, .inl ⟨hp, hj⟩, hbyte⟩
  · cases ev with
    | timeout | ioFault => exact absurd (State.byteAt_finish _) hne
    | byte b =>
      rw [byteAt_scratch_header_byte] at hne ⊢
      obtain ⟨hj, hbyte⟩ := storeFrameByte_changes_scratch hne
      exact ⟨b, rfl, .inr ⟨by rw [hp]; nofun, hj⟩, hbyte⟩
  · cases ev with
    | timeout | ioFault => exact absurd (State.byteAt_finish _) hne
    | byte b =>
      rw [byteAt_scratch_body_byte] at hne ⊢
      obtain ⟨hj, hbyte⟩ := storeFrameByte_changes_scratch hne
      exact ⟨b, rfl, .inr ⟨by rw [hp]; nofun, hj⟩, hbyte⟩

/-- An ENCODE that changes SCRATCH does so inside the frame it built. -/
theorem encodeFrame_changes_scratch (hne : (encodeFrame s).byteAt .scratch j ≠ s.byteAt .scratch j) :
    j < (encodeFrame s).txFrameLen.toNat := by
  rcases Nat.lt_or_ge s.cfg.frameBufCap (26 + s.txLen) with hbig | hfit
  · exact absurd (byteAt_scratch_encodeFrame_outside (.inl hbig)) hne
  · rw [encodeFrame_txFrameLen hfit]
    exact Nat.lt_of_not_le fun hj => hne (byteAt_scratch_encodeFrame_outside (.inr hj))

/-- Settles O46: of the four kinds of step that write a memory, the host's writes leave SCRATCH alone. -/
theorem onlyEncodeAndReceptionWriteScratch : Obligations.OnlyEncodeAndReceptionWriteScratch := by
  intro s t j h hne
  rcases step_memory_cases h hne with hreset | ⟨o, v, rest, -, -, rfl⟩ | ⟨w, rest, hw, hi, hb, rfl⟩ |
    ⟨ev, evs, rest, hrec, hstep⟩
  · exact .inl hreset
  · exact absurd ((State.byteAt_busWrite (by decide) ..).trans (State.byteAt_setAgenda rest)) hne
  · exact .inr (.inl ⟨w, rest, hw, hi, hb, encodeFrame_changes_scratch (s := s.setAgenda rest) hne⟩)
  · obtain ⟨b, rfl, hj⟩ := receiveStep_changes_scratch hstep hne
    exact .inr (.inr ⟨b, evs, rest, hrec, hj⟩)

end Sys2Proof.Machine
end

section
/-! PROOFS. The transmit transport, reset at any point, and RX_VALUE_LEN over a DECODE (60_exceptions.md R145;
70_reset_and_hazards.md R158-R162; 43_codec.md R130; O48, O50, O57). -/

namespace Sys2Proof.Machine

open Sys2Proof

variable {s t : State} {ev : RxEvent} {y : List Byte} {w : Word}

/-! The transmit transport. -/

/-- No CMD write touches the transmit transport. -/
theorem commandWrite_sent (h : commandWrite w s = .next t) : t.sent = s.sent ∧ t.accepted = s.accepted := by
  rcases commandWrite_cases h with ⟨-, rfl⟩ | ⟨-, -, rfl⟩ | ⟨i, -, -, he⟩
  · exact ⟨rfl, rfl⟩
  · exact ⟨rfl, rfl⟩
  · have hf := exec_commandFrame he
    exact ⟨hf.sent, hf.accepted⟩

/-- Settles O48: the transmit write appends, and every other kind of step keeps the two fields. -/
theorem transmitAcceptsTheFirstBytes : Obligations.TransmitAcceptsTheFirstBytes := by
  refine ⟨fun s bytes k rest ha => ?_, fun s t h hno => ?_⟩
  · rw [step_of_agenda ha, act, transmitWrite, List.length_take]
    rfl
  · rcases step_cases h with ⟨rest, -, ht⟩ | ⟨e, rest, -, rfl⟩ | ⟨bs, k, rest, ha, -⟩ | ⟨rest, -, rfl⟩ |
      ⟨o, rest, -, -, rfl⟩ | ⟨o, v, rest, -, -, -, rfl⟩ | ⟨w, rest, -, hc⟩
    case inl =>
      have hf := receiveTurn_frame ht
      exact ⟨hf.sent, hf.accepted⟩
    case inr.inr.inl => exact absurd ha (hno bs k rest)
    case inr.inr.inr.inr.inr.inl =>
      rw [State.busWrite_shape]
      exact ⟨rfl, rfl⟩
    case inr.inr.inr.inr.inr.inr => exact commandWrite_sent (s := s.setAgenda rest) hc
    all_goals exact ⟨rfl, rfl⟩

/-! Reset at any point. -/

/-- After a reset every byte inside a memory comes from the new draw. -/
theorem byteAt_platformReset {m : MemId} {i : Nat} (h : i < s.platformReset.memSize m) :
    s.platformReset.byteAt m i = Config.freeByte (s.draw.number + 1) m i := by
  rw [State.byteAt, if_pos h]
  cases m <;> rfl

/-- Settles O50: every register is at its reset value whatever the configuration, and the memories are empty. -/
theorem resetAtAnyPoint : Obligations.ResetAtAnyPoint := by
  intro s rest ha
  refine ⟨_, step_reset ha, fun r => ?_, rfl, rfl, rfl, rfl, rfl, rfl, rfl, rfl, rfl, rfl, fun m i hi => ?_⟩
  · cases r <;> rfl
  · exact byteAt_platformReset hi

/-! RX_VALUE_LEN over a DECODE. -/

/-- DELIVER writes RX_VALUE_LEN only where it finishes OK. -/
theorem deliver_valueLen (y : List Byte) (s : State) :
    (deliver y s).rx.valueLen = s.rx.valueLen ∨ (deliver y s).status.outcome = .ok := by
  unfold deliver
  split
  · exact .inl rfl
  · exact .inr rfl

theorem classify_valueLen (y : List Byte) (s : State) :
    (classify y s).rx.valueLen = s.rx.valueLen ∨ (classify y s).status.outcome = .ok := by
  rcases classify_cases y s with ⟨-, r, c, hend, -, -, -, hlen⟩ | ⟨hprop, -⟩
  · rw [hend]
    exact .inl hlen
  · rw [classify_propertyResponse hprop]
    exact deliver_valueLen y _

theorem seek_rx (ev : RxEvent) (s : State) : (seek ev s).rx = s.rx := by
  cases ev with
  | timeout | ioFault => rfl
  | byte b =>
    by_cases hmark : b = startMarker
    · rw [hmark, seek_startMarker]
      rfl
    · rw [seek_of_ne_startMarker hmark]

theorem header_valueLen (ev : RxEvent) (s : State) : (header ev s).rx.valueLen = s.rx.valueLen := by
  cases ev with
  | timeout | ioFault => rfl
  | byte b =>
    unfold header validateHeader
    dsimp only
    split
    · split
      · rw [acceptHeader_latchHeader_rx]
        rfl
      · rfl
    · rfl

theorem body_valueLen (ev : RxEvent) (s : State) :
    (body ev s).rx.valueLen = s.rx.valueLen ∨ (body ev s).status.busy = false ∧ (body ev s).status.outcome = .ok := by
  cases ev with
  | timeout | ioFault => exact .inl rfl
  | byte b =>
    unfold body
    dsimp only
    split
    · have hbusy := validateBody_busy (storeFrameByte b s)
      unfold validateBody at hbusy ⊢
      split at hbusy
      case isTrue hchk =>
        rw [if_pos hchk]
        exact (classify_valueLen _ _).imp_right fun hok => ⟨hbusy, hok⟩
      case isFalse hchk =>
        rw [if_neg hchk]
        exact .inl rfl
    · exact .inl rfl

/-- The block's turn keeps RX_VALUE_LEN unless it finishes a DECODE with OK. -/
theorem receiveTurn_valueLen (h : receiveTurn s = .next t) :
    t.rx.valueLen = s.rx.valueLen ∨ t.status.busy = false ∧ t.status.outcome = .ok := by
  rcases receiveTurn_cases h with ⟨rfl, -⟩ | ⟨ev, evs, -, -, hstep⟩
  · exact .inl rfl
  · rcases receiveStep_cases hstep with ⟨-, rfl⟩ | ⟨-, rfl⟩ | ⟨-, rfl⟩
    · exact .inl (congrArg RxRegs.valueLen (seek_rx ev (s.setAnswers evs)))
    · exact .inl (header_valueLen ev (s.setAnswers evs))
    · exact body_valueLen ev (s.setAnswers evs)

/-- Settles O57: while a DECODE runs only its own steps and a reset write RX_VALUE_LEN; the start step clears it, or is
refused and keeps it. -/
theorem onlyAnOkDecodeLeavesAValueLength : Obligations.OnlyAnOkDecodeLeavesAValueLength := by
  refine ⟨fun s t h hb hzero => ?_, fun s t hb h => ?_⟩
  · rcases step_cases h with ⟨rest, -, ht⟩ | ⟨e, rest, -, rfl⟩ | ⟨bs, k, rest, -, rfl⟩ | ⟨rest, -, rfl⟩ |
      ⟨o, rest, -, -, rfl⟩ | ⟨o, v, rest, -, -, -, rfl⟩ | ⟨w, rest, -, hc⟩
    case inl => exact (receiveTurn_valueLen ht).imp_left fun hkept => hkept.trans hzero
    case inr.inr.inr.inl => exact .inl rfl
    case inr.inr.inr.inr.inr.inl =>
      rw [State.busWrite_shape]
      exact .inl hzero
    case inr.inr.inr.inr.inr.inr =>
      rw [commandWrite_busy (s := s.setAgenda rest) hb, Host.Outcome.next.injEq] at hc
      exact .inl (hc ▸ hzero)
    all_goals exact .inl hzero
  · rw [exec_idle hb, Host.Outcome.next.injEq] at h
    subst h
    rcases Nat.lt_or_ge s.cfg.rxvalBytes s.rxCap.toNat with hcap | hcap
    · rw [decodeStart_refused hcap]
      exact ⟨nofun, fun _ => ⟨rfl, rfl⟩⟩
    · rw [decodeStart_accepted hcap]
      exact ⟨fun _ => rfl, nofun⟩

end Sys2Proof.Machine
end

section
/-! PROOFS. The host procedure: what it reads out of SCRATCH, the short write, and the retries (60_exceptions.md R153-R156;
O55, O56). -/

namespace Sys2Proof.Machine

open Sys2Proof

variable {s e : State} {tx : Transaction} {k n : Nat}

/-! SCRATCH read through its window (30_encoding.md R73). -/

/-- The bytes of a word that was put together from four bytes. -/
theorem bytesLe_append_four (a b c d : Byte) : bytesLe (d ++ c ++ b ++ a : Word) 4 = [a, b, c, d] := by
  have field (l : Nat) (x : Byte) (h : ∀ p < 8, (d ++ c ++ b ++ a : Word).getLsbD (l + p) = x.getLsbD p) :
      (d ++ c ++ b ++ a : Word).extractLsb' l 8 = x := by
    refine BitVec.eq_of_getLsbD_eq fun p hp => ?_
    rw [BitVec.getLsbD_extractLsb', h p hp]
    simp [hp]
  rw [bytesLe_four, field 0 a, field 8 b, field 16 c, field 24 d]
  all_goals
    intro p hp
    simp only [BitVec.getLsbD_append]
    interval_cases p <;> rfl

theorem bytesLe_le32_memRead (s : State) (m : MemId) (i : Nat) :
    bytesLe (le32 (s.memRead m i 4) 0) 4 = s.memRead m i 4 := by
  rw [le32_memRead]
  exact bytesLe_append_four ..

/-- Words read one after the other are the bytes they cover. -/
theorem flatMap_busRead_scratch (h : 4 * n ≤ 0x20000) (s : State) :
    ((List.range n).flatMap fun j => bytesLe (s.busRead (0x20000 + 4 * j)) 4) = s.memRead .scratch 0 (4 * n) := by
  induction n with
  | zero => rfl
  | succ n ih =>
    rw [List.range_succ, List.flatMap_append, ih (by omega), List.flatMap_singleton,
      busRead_of_windowAt (windowAt_scratch (by omega)), bytesLe_le32_memRead, Nat.mul_succ, State.memRead_add,
      Nat.zero_add]

theorem take_memRead (h : k ≤ n) (s : State) (m : MemId) (i : Nat) : (s.memRead m i n).take k = s.memRead m i k := by
  obtain ⟨l, rfl⟩ := Nat.exists_eq_add_of_le h
  rw [State.memRead_add, List.take_left' State.memRead_length]

/-- The host's read of SCRATCH gives its first bytes, as far as the window goes. -/
theorem readScratch_eq (h : n < 0x20000) (s : State) : readScratch n s = s.memRead .scratch 0 n := by
  rw [readScratch, flatMap_busRead_scratch (by omega), take_memRead (by omega)]

theorem readScratch_txFrameLen (s : State) :
    readScratch s.txFrameLen.toNat s = s.memRead .scratch 0 s.txFrameLen.toNat :=
  readScratch_eq s.txFrameLen.isLt s

/-! The transmit write of the frame (60_exceptions.md R154). -/

/-- What the transport is left with after the write of the frame, of which it accepts at most `k` bytes. -/
theorem transmitWrite_frame (s : State) (k : Nat) :
    transmitWrite (readScratch s.txFrameLen.toNat s) k s =
      { s with sent := s.sent ++ (s.memRead .scratch 0 s.txFrameLen.toNat).take k
               accepted := min k s.txFrameLen.toNat } := by
  rw [transmitWrite, readScratch_txFrameLen, List.length_take, State.memRead_length]

theorem sendAndDecode_short (h : k < s.txFrameLen.toNat) :
    sendAndDecode k s =
      { result := some (.protocolError .portWriteFailed), decodes := 0
        state := { s with sent := s.sent ++ (s.memRead .scratch 0 s.txFrameLen.toNat).take k, accepted := k } } := by
  unfold sendAndDecode
  dsimp only
  rw [transmitWrite_frame, Nat.min_eq_left h.le]
  exact if_pos h

theorem sendAndDecode_whole (h : s.txFrameLen.toNat ≤ k) :
    sendAndDecode k s = decodeAttempts 3
      { s with sent := s.sent ++ s.memRead .scratch 0 s.txFrameLen.toNat, accepted := s.txFrameLen.toNat } := by
  unfold sendAndDecode
  dsimp only
  rw [transmitWrite_frame, Nat.min_eq_right h, List.take_of_length_le (by rw [State.memRead_length]; exact h)]
  exact if_neg (Nat.lt_irrefl _)

/-- Past ENCODE, unless it refused the frame, `perform` is the write and the DECODEs. -/
theorem perform_of_encoded (he : e = hostCommand .encode (writeTransaction tx s))
    (h : e.status.outcome ≠ .bufferTooSmall) : perform tx k s = sendAndDecode k e := by
  subst he
  exact if_neg h

/-- Settles O56: the short write is the one that ends `sendAndDecode` before any DECODE. -/
theorem shortWriteEndsTheTransaction : Obligations.ShortWriteEndsTheTransaction := by
  intro tx k s e he hout hk
  rw [perform_of_encoded he hout, sendAndDecode_short hk]
  exact ⟨rfl, rfl, rfl⟩

/-! The DECODEs (60_exceptions.md R155, R156). -/

/-- Only FOREIGN_REQUEST presents the result ForeignRequest. -/
theorem decodeResult_ne_foreignRequest (h : s.status.outcome ≠ .foreignRequest) : s.decodeResult ≠ .foreignRequest := by
  unfold State.decodeResult
  split
  case h_3 hforeign => exact absurd hforeign h
  all_goals nofun

/-- A DECODE that finishes with another outcome is the last. -/
theorem decodeAttempts_of_ne (hb : (hostDecode s).status.busy = false)
    (ho : (hostDecode s).status.outcome ≠ .foreignRequest) (n : Nat) :
    decodeAttempts n s = { result := some (hostDecode s).decodeResult, decodes := 1, state := hostDecode s } := by
  cases n <;> simp only [decodeAttempts, hb, ho, Bool.false_eq_true, if_false]

/-- A foreign request with retries left is followed by the rest of the attempts. -/
theorem decodeAttempts_succ_of_foreignRequest (hb : (hostDecode s).status.busy = false)
    (ho : (hostDecode s).status.outcome = .foreignRequest) (n : Nat) :
    decodeAttempts (n + 1) s =
      { result  := (decodeAttempts n (hostDecode s)).result
        decodes := (decodeAttempts n (hostDecode s)).decodes + 1
        state   := (decodeAttempts n (hostDecode s)).state } := by
  simp only [decodeAttempts, hb, ho, Bool.false_eq_true, if_false, if_true]

theorem decodeAttempts_zero_of_foreignRequest (hb : (hostDecode s).status.busy = false)
    (ho : (hostDecode s).status.outcome = .foreignRequest) :
    decodeAttempts 0 s =
      { result := some (.protocolError .portReadFailed), decodes := 1, state := hostDecode s } := by
  simp only [decodeAttempts, hb, ho, Bool.false_eq_true, if_false, if_true]

/-- A DECODE that does not finish leaves `perform` without a result. -/
theorem decodeAttempts_of_busy (hb : (hostDecode s).status.busy = true) (n : Nat) :
    decodeAttempts n s = { result := none, decodes := 1, state := hostDecode s } := by
  cases n <;> simp only [decodeAttempts, hb, if_true]

/-- What `n` retries can come to. -/
structure Performed.BoundedBy (p : Performed) (n : Nat) : Prop where
  decodes : p.decodes ≤ n + 1
  result  : p.result ≠ some .foreignRequest
  foreign : p.result ≠ none → p.state.status.outcome = .foreignRequest →
    p.decodes = n + 1 ∧ p.result = some (.protocolError .portReadFailed)

theorem decodeAttempts_boundedBy_of_last (ho : ¬ ((hostDecode s).status.busy = false ∧
    (hostDecode s).status.outcome = .foreignRequest)) (n : Nat) : (decodeAttempts n s).BoundedBy n := by
  cases hb : (hostDecode s).status.busy with
  | true =>
    rw [decodeAttempts_of_busy hb]
    exact ⟨Nat.le_add_left 1 n, nofun, fun h => absurd rfl h⟩
  | false =>
    have ho : (hostDecode s).status.outcome ≠ .foreignRequest := fun h => ho ⟨hb, h⟩
    rw [decodeAttempts_of_ne hb ho]
    exact ⟨Nat.le_add_left 1 n, fun h => decodeResult_ne_foreignRequest ho (Option.some.inj h),
      fun _ h => absurd h ho⟩

/-- The attempts, by induction on the retries left: each foreign request takes one, and the first DECODE that ends
otherwise, or not at all, is the last. -/
theorem decodeAttempts_boundedBy (n : Nat) (s : State) : (decodeAttempts n s).BoundedBy n := by
  induction n generalizing s with
  | zero =>
    by_cases ho : (hostDecode s).status.busy = false ∧ (hostDecode s).status.outcome = .foreignRequest
    · rw [decodeAttempts_zero_of_foreignRequest ho.1 ho.2]
      exact ⟨le_refl 1, nofun, fun _ _ => ⟨rfl, rfl⟩⟩
    · exact decodeAttempts_boundedBy_of_last ho 0
  | succ n ih =>
    by_cases ho : (hostDecode s).status.busy = false ∧ (hostDecode s).status.outcome = .foreignRequest
    · obtain ⟨hcount, hresult, hforeign⟩ := ih (hostDecode s)
      rw [decodeAttempts_succ_of_foreignRequest ho.1 ho.2]
      exact ⟨Nat.succ_le_succ hcount, hresult, fun hr hout => (hforeign hr hout).imp_left (congrArg (· + 1))⟩
    · exact decodeAttempts_boundedBy_of_last ho (n + 1)

/-- `perform` ends before any DECODE, with a protocol error, or comes to the DECODEs from some state. -/
theorem perform_cases (tx : Transaction) (k : Nat) (s : State) :
    ((perform tx k s).decodes = 0 ∧ ∃ c, (perform tx k s).result = some (.protocolError c)) ∨
      ∃ u, perform tx k s = decodeAttempts 3 u := by
  by_cases hout : (hostCommand .encode (writeTransaction tx s)).status.outcome = .bufferTooSmall
  · have hperform : perform tx k s =
        { result := some (.protocolError .bufferTooSmall), decodes := 0
          state := hostCommand .encode (writeTransaction tx s) } := if_pos hout
    rw [hperform]
    exact .inl ⟨rfl, _, rfl⟩
  · rw [perform_of_encoded rfl hout]
    rcases Nat.lt_or_ge k (hostCommand .encode (writeTransaction tx s)).txFrameLen.toNat with hk | hk
    · rw [sendAndDecode_short hk]
      exact .inl ⟨rfl, _, rfl⟩
    · exact .inr ⟨_, sendAndDecode_whole hk⟩

/-- Settles O55: the bounds of three retries, and the equations of one attempt and of the whole write. -/
theorem performRetriesForeignRequestsThreeTimes : Obligations.PerformRetriesForeignRequestsThreeTimes := by
  intro tx k s
  have hbounds : (perform tx k s).decodes ≤ 4 ∧ (perform tx k s).result ≠ some .foreignRequest ∧
      ((perform tx k s).decodes ≠ 0 → (perform tx k s).result ≠ none →
        (perform tx k s).state.status.outcome = .foreignRequest →
        (perform tx k s).decodes = 4 ∧ (perform tx k s).result = some (.protocolError .portReadFailed)) := by
    rcases perform_cases tx k s with ⟨hzero, c, hresult⟩ | ⟨u, hu⟩
    · rw [hzero, hresult]
      exact ⟨Nat.zero_le 4, nofun, fun h => absurd rfl h⟩
    · obtain ⟨hcount, hresult, hforeign⟩ := decodeAttempts_boundedBy 3 u
      rw [hu]
      exact ⟨hcount, hresult, fun _ => hforeign⟩
  obtain ⟨hcount, hresult, hforeign⟩ := hbounds
  refine ⟨hcount, hresult, hforeign, fun n hb ho => decodeAttempts_of_ne hb ho n,
    fun n hb ho => decodeAttempts_succ_of_foreignRequest hb ho n, fun e he hout hk => ?_⟩
  rw [perform_of_encoded he hout, sendAndDecode_whole hk]

end Sys2Proof.Machine
end
